-- ==== Sys2Proof/Word.lean ====
section
/-! DEFINITION. The byte of the part's wires, and the plain integer arithmetic the manual's conventions name
(00_scope.md, "Integer arithmetic" and "Responses": clamped). -/

namespace Sys2Proof

/-- One byte on a wire of the part (R205, R217). -/
abbrev Byte := BitVec 8

/-- "Clamped": replaced by the nearest bound of its range (00_scope.md, Responses). -/
def clampNat (lo hi v : Nat) : Nat := max lo (min v hi)

/-- The same on signed quantities. -/
def clampInt (lo hi v : Int) : Int := max lo (min v hi)

/-- ceil(a / b) for naturals (00_scope.md, Integer arithmetic). -/
def ceilDiv (a b : Nat) : Nat := (a + (b - 1)) / b

end Sys2Proof
end

