-- ==== Sys2Proof/Syntax.lean ====
section
/-! DEFINITION. The commands of the part: one constructor for each row of spec/opcode_table.json. The operands of a
request are its payload fields in the order its rule lists them (R209), each held AS THE WIRE CARRIES IT: a flag, a selector,
a presence byte and an enumerated value are raw numbers, so that a byte outside its encoding can be sent (R209 answers it
RANGE). The operands of an event are what the part sees of it. -/

namespace Sys2Proof

/-- A field of an amending request (R209): a selector byte (0 not given, 1 given, 2 given as absent) and the value. -/
structure Given (α : Type) where
  sel : Nat
  val : α
  deriving DecidableEq, Repr

/-- An optional field in a record (R209): a presence byte (0 absent, 1 present) and the value. -/
structure Opt (α : Type) where
  pres : Nat
  val : α
  deriving DecidableEq, Repr

/-- A stitch record as a frame carries it (R216): kind 0 to 3 as coded, and the two signed displacements. -/
structure RawStitch where
  kind : Nat
  dx : Int
  dy : Int
  deriving DecidableEq, Repr

/-- One slot and colour code of AMEND DESIGN (R10). -/
structure SlotColour where
  slot : Nat
  colour : Opt Nat
  deriving DecidableEq, Repr

/-- One pair of AMEND MAP: a slot and a needle or absent (R113). -/
structure MapPair where
  slot : Nat
  needle : Opt Nat
  deriving DecidableEq, Repr

/-- The fields of PUT_RUN (R8), all given together. -/
structure RunFields where
  first : Nat
  length : Nat
  passes : Nat
  slot : Nat
  endShift : Opt (Int × Int)
  next : Opt Nat
  haltAfter : Nat
  trimAfter : Nat
  deriving DecidableEq, Repr

/-- The fields AMEND HEAD may give (R183): enable, mask, the five fault actions in kind order, bobbin remaining. -/
structure HeadFields where
  enable : Given Nat
  mask : Given Nat
  onBreak : Given Nat
  onTension : Given Nat
  onBobbin : Given Nat
  onLost : Given Nat
  onJam : Given Nat
  bobbin : Given Nat
  deriving DecidableEq, Repr

/-- The parameter record as AMEND PARAMETERS gives it (R212), each field with its selector: the motion parameters in the
order of R61, then heads_fitted, lost_count, the selector times, the sensing parameters, and the switches. -/
structure ParamFields where
  vMin : Given Nat
  vMax : Given Nat
  vJump : Given Nat
  vStop : Given Nat
  slew : Given Nat
  stopSlew : Given Nat
  fX : Given Nat
  fY : Given Nat
  kX : Given Nat
  kY : Given Nat
  fTrav : Given Nat
  wStart : Given Nat
  wEnd : Given Nat
  headsFitted : Given Nat
  lostCount : Given Nat
  selStep : Given Nat
  selSettle : Given Nat
  selGrace : Given Nat
  tensionCount : Given Nat
  breakRatio : Given Nat
  breakCount : Given Nat
  motionBase : Given Nat
  motionRate : Given Nat
  continueAfterChange : Given Nat
  startRepeat : Given Nat
  stopLineCount : Given Nat
  autoStrobe : Given Nat
  faultLine : Given (Nat × Nat)
  deriving DecidableEq, Repr

/-- The two frame axes (00_scope.md, Axes). -/
inductive Axis where
  | x
  | y
  deriving DecidableEq, Repr

/-- The commands of the Jastil 7720, one constructor per row of spec/opcode_table.json, in the table's order. -/
inductive Instr where
  -- the design library (chapter 1)
  | openDesign (d : Nat)
  | putStitches (d format count : Nat) (records : List RawStitch)
  | putRun (d r : Nat) (fields : RunFields)
  | retireRun (d r : Nat)
  | amendDesign (d : Nat) (startRun : Given Nat) (colours : List SlotColour)
  | seal (d : Nat)
  | retireDesign (d discard : Nat)
  | lookupDesign (d : Nat)
  | lookupRun (d r : Nat)
  | lookupStitches (d i n : Nat)
  | lookupOrdinal (d o : Nat)
  | lookupLibrary
  -- placement and frame position (chapter 2)
  | amendHoop (xMin xMax yMin yMax : Int)
  | lookupHoop
  | home
  | jog (mode : Nat) (x y : Int)
  | lookupFrame
  -- the run controller (chapter 5)
  | lookupMachine
  | amendMachine (speed : Given Nat)
  | activate (d : Nat) (originX originY : Int) (orientation mirror scaleX scaleY discard : Nat)
  | deactivate (discard : Nat)
  | start
  | arm (on : Nat)
  | stop (n : Nat)
  | back (n : Nat)
  | fwd (n : Nat)
  | rewind (discard : Nat)
  | clear
  | repair (k : Nat)
  | restart
  -- planner, shaft monitor, head chain (chapters 3 and 4)
  | lookupPlan
  | lookupShaft
  | lookupChain
  -- needle maps (chapter 6)
  | amendMap (map unit : Nat) (pairs : List MapPair)
  | amendMapMode (mode : Nat)
  | strobe (map : Nat)
  | automap (d map : Nat)
  | lookupMap (map unit : Nat)
  | lookupMaps
  -- selectors (chapter 7)
  | select (h n : Nat)
  | cancelChange (h : Nat)
  | lookupSelectors
  -- thread sensing (chapter 8)
  | amendThread (h n : Nat) (colour : Given Nat) (band : Given (Nat × Nat)) (state : Given Nat)
  | retireThread (h n : Nat)
  | lookupThread (h n : Nat)
  | lookupThreads (h : Nat)
  | addSample (angle heads cadence use : Nat)
  | retireSample (i : Nat)
  | clearSchedule
  | lookupSchedule
  | lookupSensing (h : Nat)
  -- heads (chapter 9)
  | amendHead (h : Nat) (fields : HeadFields)
  | amendClearFaults (h kinds : Nat)
  | amendClearJam (h : Nat)
  | park (h : Nat)
  | restoreHead (h : Nat)
  | lookupHead (h : Nat)
  | lookupHeads
  -- cases (chapter 10)
  | retireCase (k : Nat)
  | lookupCase (k : Nat)
  | lookupCases
  -- parameters (chapter 11)
  | amendParameters (fields : ParamFields)
  | lookupParameters
  -- the link (chapter 11): a fetch of `bytes` whole bytes, the RESET line
  | fetch (bytes : Nat)
  | resetAssert
  | resetRelease
  -- operator and emergency lines (chapters 5 and 6); MAPSEL is read at the fall of MAPSTROBE
  | estopFall
  | startLineFall
  | stopLineFall
  | mapstrobeFall (mapsel : Bool)
  -- the shaft: the new levels of ENC_A, ENC_B, ENC_I and the microseconds since the clock was last moved
  | encoderCount (a b i : Bool) (elapsed : Nat)
  | drvFltFall
  -- the frame: the sensor's axis and whether the edge makes it active
  | homeSensorEdge (axis : Axis) (active : Bool)
  -- the head chain: the bytes of the frame; whether any byte was seen in a slot without a report
  | headReport (frame : List Byte)
  | replySlotEnd (anyByte : Bool)
  | idleExchange
  -- timers and watches
  | shaftStanding
  | positioningComplete
  | positioningTimeout
  | indexWatchTrip
  | reverseWatchTrip
  -- declarations: head, and ordinal and needle where the report carries them (R164)
  | lost (h : Nat)
  | selectorDeadlineExpiry (h : Nat)
  | homeNotFound (axis : Axis)
  | tensionDeclared (h ordinal needle : Nat)
  | breakDeclared (h ordinal needle : Nat)
  | bobbinDeclared (h ordinal : Nat)
  -- completions
  | sealComplete
  | subMoveComplete
  | traverseLegComplete
  -- a request frame that fails the port's check; byte 0 as received (R206)
  | malformedFrame (code : Nat)
  deriving DecidableEq, Repr

end Sys2Proof
end

