-- ==== Sys2Proof/Decode.lean ====
section
/-! DEFINITION. What a transaction on the SPI link says (R205, R206, R208, R209, R211, R216): the CRC, the fields of a
request payload, the request catalogue, and the command a whole transaction stands for; after them the encoder of request
frames. No row of spec/opcode_table.json carries bits, so `decodeTableWord` answers none. -/

namespace Sys2Proof

/-- The rows of the table give no bits: no word spells a command. -/
def decodeTableWord (_nbits _w : Nat) : Option Instr := none

/-! ## CRC-8 (R208) -/

/-- One bit of the CRC: generator 0x07, most significant bit first. -/
def crcBit (c : Byte) : Byte := if c.msb then (c <<< 1) ^^^ 0x07#8 else c <<< 1

/-- One byte of the CRC. -/
def crcByte (c b : Byte) : Byte := crcBit (crcBit (crcBit (crcBit (crcBit (crcBit (crcBit (crcBit (c ^^^ b))))))))

/-- The CRC-8 of a frame: initial value 0, no reflection, no final inversion (R208). -/
def crc8 (bs : List Byte) : Byte := bs.foldl crcByte 0#8

/-! ## Fields, high byte first (R209) -/

/-- The `w` bytes of a number, high byte first. -/
def beBytes : Nat → Nat → List Byte
  | 0, _ => []
  | w + 1, n => BitVec.ofNat 8 (n / 256 ^ w) :: beBytes w n

/-- The `w` bytes of a signed number, two's complement, high byte first. -/
def beSigned (w : Nat) (i : Int) : List Byte := beBytes w (i % (256 ^ w : Int)).toNat

/-- A reader of the next fields of a payload: none when the bytes run out. -/
abbrev Rd (α : Type) := StateT (List Byte) Option α

/-- The next byte. -/
def rd8 : Rd Nat := fun bs =>
  match bs with
  | [] => none
  | b :: rest => some (b.toNat, rest)

/-- The next two bytes. -/
def rd16 : Rd Nat := do
  let hi ← rd8
  let lo ← rd8
  return hi * 256 + lo

/-- The next three bytes. -/
def rd24 : Rd Nat := do
  let hi ← rd16
  let lo ← rd8
  return hi * 256 + lo

/-- A number of `w` bytes read as signed. -/
def asSigned (w n : Nat) : Int := if n < 256 ^ w / 2 then (n : Int) else (n : Int) - (256 ^ w : Int)

/-- The next four bytes, signed. -/
def rdS32 : Rd Int := do
  let hi ← rd24
  let lo ← rd8
  return asSigned 4 (hi * 256 + lo)

/-- A field of an amending request. -/
def rdGiven {α : Type} (r : Rd α) : Rd (Given α) := do
  let sel ← rd8
  let v ← r
  return ⟨sel, v⟩

/-- An optional field. -/
def rdOpt {α : Type} (r : Rd α) : Rd (Opt α) := do
  let pres ← rd8
  let v ← r
  return ⟨pres, v⟩

/-- Two fields in a row. -/
def rdPair {α β : Type} (r : Rd α) (q : Rd β) : Rd (α × β) := do
  let a ← r
  let b ← q
  return (a, b)

/-- `k` fields in a row. -/
def rdMany {α : Type} (r : Rd α) : Nat → Rd (List α)
  | 0 => return []
  | k + 1 => do
    let a ← r
    let as ← rdMany r k
    return a :: as

/-- All bytes that are left. -/
def rdRest : Rd Unit := fun _ => some ((), [])

/-- A signed field of `bits` bits within a stitch record. -/
def signedField (bits n : Nat) : Int := if n < 2 ^ bits / 2 then (n : Int) else (n : Int) - (2 ^ bits : Int)

/-- A compact stitch record: kind in bits 15-14, dx in 13-7, dy in 6-0 (R216). -/
def rdCompact : Rd RawStitch := do
  let w ← rd16
  return ⟨w / 16384 % 4, signedField 7 (w / 128 % 128), signedField 7 (w % 128)⟩

/-- A wide stitch record: kind in bits 23-22, dx in 21-11, dy in 10-0 (R216). -/
def rdWide : Rd RawStitch := do
  let w ← rd24
  return ⟨w / 4194304 % 4, signedField 11 (w / 2048 % 2048), signedField 11 (w % 2048)⟩

/-- The fields of PUT_RUN (R8). -/
def rdRun : Rd RunFields := do
  let first ← rd24
  let length ← rd16
  let passes ← rd8
  let slot ← rd8
  let endShift ← rdOpt (rdPair rdS32 rdS32)
  let next ← rdOpt rd16
  let haltAfter ← rd8
  let trimAfter ← rd8
  return ⟨first, length, passes, slot, endShift, next, haltAfter, trimAfter⟩

/-- The fields of AMEND HEAD (R183). -/
def rdHead : Rd HeadFields := do
  let enable ← rdGiven rd8
  let mask ← rdGiven rd8
  let onBreak ← rdGiven rd8
  let onTension ← rdGiven rd8
  let onBobbin ← rdGiven rd8
  let onLost ← rdGiven rd8
  let onJam ← rdGiven rd8
  let bobbin ← rdGiven rd24
  return ⟨enable, mask, onBreak, onTension, onBobbin, onLost, onJam, bobbin⟩

/-- The fields of AMEND PARAMETERS (R212); the place of the last five is a DESIGN CHOICE (log entry 15). -/
def rdParams : Rd ParamFields := do
  let vMin ← rdGiven rd16
  let vMax ← rdGiven rd16
  let vJump ← rdGiven rd16
  let vStop ← rdGiven rd16
  let slew ← rdGiven rd16
  let stopSlew ← rdGiven rd16
  let fX ← rdGiven rd16
  let fY ← rdGiven rd16
  let kX ← rdGiven rd16
  let kY ← rdGiven rd16
  let fTrav ← rdGiven rd16
  let wStart ← rdGiven rd16
  let wEnd ← rdGiven rd16
  let headsFitted ← rdGiven rd8
  let lostCount ← rdGiven rd8
  let selStep ← rdGiven rd16
  let selSettle ← rdGiven rd16
  let selGrace ← rdGiven rd16
  let tensionCount ← rdGiven rd8
  let breakRatio ← rdGiven rd8
  let breakCount ← rdGiven rd8
  let motionBase ← rdGiven rd8
  let motionRate ← rdGiven rd16
  let continueAfterChange ← rdGiven rd8
  let startRepeat ← rdGiven rd8
  let stopLineCount ← rdGiven rd16
  let autoStrobe ← rdGiven rd8
  let faultLine ← rdGiven (rdPair rd8 rd8)
  return ⟨vMin, vMax, vJump, vStop, slew, stopSlew, fX, fY, kX, kY, fTrav, wStart, wEnd, headsFitted, lostCount, selStep,
    selSettle, selGrace, tensionCount, breakRatio, breakCount, motionBase, motionRate, continueAfterChange, startRepeat,
    stopLineCount, autoStrobe, faultLine⟩

/-- The next byte, or 0 when none is left. -/
def rdPresent : Rd Nat := fun bs =>
  match bs with
  | [] => some (0, [])
  | b :: rest => some (b.toNat, rest)

/-- PUT_STITCHES: design, format, count, records; with another format the length is not judged, so the count itself may be
missing (R216). -/
def rdPutStitches : Rd Instr := do
  let d ← rd8
  let format ← rd8
  if format = 0 then
    let count ← rd8
    let rs ← rdMany rdCompact count
    return .putStitches d format count rs
  else if format = 1 then
    let count ← rd8
    let rs ← rdMany rdWide count
    return .putStitches d format count rs
  else
    let count ← rdPresent
    rdRest
    return .putStitches d format count []

/-- A slot with a colour code or absent (R10): the slot, then an optional field. That AMEND DESIGN carries its colour codes as a
counted list of these, with no selector of R209 in each, is a DESIGN CHOICE (log entry 15). -/
def rdColour : Rd SlotColour := do
  let slot ← rd8
  let colour ← rdOpt rd16
  return ⟨slot, colour⟩

/-- A slot with a needle or absent (R113): the slot, then an optional field, with no selector of R209 (DESIGN CHOICE, log entry 15). -/
def rdMapPair : Rd MapPair := do
  let slot ← rd8
  let needle ← rdOpt rd8
  return ⟨slot, needle⟩

/-- The request a code of the catalogue names (R211), read from its payload; none for a code outside it. The fields stand in the order
in which the catalogue lists them; the widths R209 does not give (scale X and scale Y of ACTIVATE, two bytes unsigned) are a DESIGN
CHOICE, and so is it that AMEND HOOP, AMEND MAP MODE and AMEND CLEAR_FAULTS, whose fields are given always, carry them without the
selector of R209 (log entry 15). -/
def rdRequest (code : Nat) : Option (Rd Instr) :=
  match code with
  | 0x10 => some (do return .openDesign (← rd8))
  | 0x11 => some rdPutStitches
  | 0x12 => some (do return .putRun (← rd8) (← rd16) (← rdRun))
  | 0x13 => some (do return .retireRun (← rd8) (← rd16))
  | 0x14 => some (do
      let d ← rd8
      let s ← rdGiven rd16
      let k ← rd8
      return .amendDesign d s (← rdMany rdColour k))
  | 0x15 => some (do return .seal (← rd8))
  | 0x16 => some (do return .retireDesign (← rd8) (← rd8))
  | 0x17 => some (do return .lookupDesign (← rd8))
  | 0x18 => some (do return .lookupRun (← rd8) (← rd16))
  | 0x19 => some (do return .lookupStitches (← rd8) (← rd24) (← rd8))
  | 0x1A => some (do return .lookupOrdinal (← rd8) (← rd24))
  | 0x1B => some (do return .lookupLibrary)
  | 0x20 => some (do return .amendHoop (← rdS32) (← rdS32) (← rdS32) (← rdS32))
  | 0x21 => some (do return .lookupHoop)
  | 0x22 => some (do return .home)
  | 0x23 => some (do return .jog (← rd8) (← rdS32) (← rdS32))
  | 0x24 => some (do return .lookupFrame)
  | 0x30 => some (do return .lookupMachine)
  | 0x31 => some (do return .amendMachine (← rdGiven rd16))
  | 0x32 => some (do
      return .activate (← rd8) (← rdS32) (← rdS32) (← rd8) (← rd8) (← rd16) (← rd16) (← rd8))
  | 0x33 => some (do return .deactivate (← rd8))
  | 0x34 => some (do return .start)
  | 0x35 => some (do return .arm (← rd8))
  | 0x36 => some (do return .stop (← rd16))
  | 0x37 => some (do return .back (← rd16))
  | 0x38 => some (do return .fwd (← rd16))
  | 0x39 => some (do return .rewind (← rd8))
  | 0x3A => some (do return .clear)
  | 0x3B => some (do return .repair (← rd8))
  | 0x3C => some (do return .restart)
  | 0x40 => some (do return .lookupPlan)
  | 0x41 => some (do return .lookupShaft)
  | 0x42 => some (do return .lookupChain)
  | 0x50 => some (do
      let m ← rd8
      let u ← rd8
      let k ← rd8
      return .amendMap m u (← rdMany rdMapPair k))
  | 0x51 => some (do return .amendMapMode (← rd8))
  | 0x52 => some (do return .strobe (← rd8))
  | 0x53 => some (do return .automap (← rd8) (← rd8))
  | 0x54 => some (do return .lookupMap (← rd8) (← rd8))
  | 0x55 => some (do return .lookupMaps)
  | 0x60 => some (do return .select (← rd8) (← rd8))
  | 0x61 => some (do return .cancelChange (← rd8))
  | 0x62 => some (do return .lookupSelectors)
  | 0x70 => some (do
      return .amendThread (← rd8) (← rd8) (← rdGiven rd16) (← rdGiven (rdPair rd16 rd16)) (← rdGiven rd8))
  | 0x71 => some (do return .retireThread (← rd8) (← rd8))
  | 0x72 => some (do return .lookupThread (← rd8) (← rd8))
  | 0x73 => some (do return .lookupThreads (← rd8))
  | 0x74 => some (do return .addSample (← rd16) (← rd8) (← rd8) (← rd8))
  | 0x75 => some (do return .retireSample (← rd8))
  | 0x76 => some (do return .clearSchedule)
  | 0x77 => some (do return .lookupSchedule)
  | 0x78 => some (do return .lookupSensing (← rd8))
  | 0x80 => some (do return .amendHead (← rd8) (← rdHead))
  | 0x81 => some (do return .amendClearFaults (← rd8) (← rd8))
  | 0x82 => some (do return .amendClearJam (← rd8))
  | 0x83 => some (do return .park (← rd8))
  | 0x84 => some (do return .restoreHead (← rd8))
  | 0x85 => some (do return .lookupHead (← rd8))
  | 0x86 => some (do return .lookupHeads)
  | 0x90 => some (do return .retireCase (← rd8))
  | 0x91 => some (do return .lookupCase (← rd8))
  | 0x92 => some (do return .lookupCases)
  | 0xA0 => some (do return .amendParameters (← rdParams))
  | 0xA1 => some (do return .lookupParameters)
  | _ => none

/-- The request of a code and a payload: none when the code is outside the catalogue or the payload has not the length its
fields take (R206). -/
def decodePayload (code : Nat) (payload : List Byte) : Option Instr :=
  match rdRequest code with
  | none => none
  | some r =>
    match r.run payload with
    | some (i, []) => some i
    | _ => none

/-- The request of a whole frame: none when the frame is not well formed (R206): exactly n + 3 bytes, n at most 200, the
CRC of bytes 0 to n + 1, a code of the catalogue and a payload of its length. -/
def decodeFrame (bs : List Byte) : Option Instr :=
  match bs with
  | code :: n :: rest =>
    if rest.length = n.toNat + 1 ∧ n.toNat ≤ 200 ∧
        rest[n.toNat]? = some (crc8 (code :: n :: rest.take n.toNat)) then
      decodePayload code.toNat (rest.take n.toNat)
    else none
  | _ => none

/-- The command a transaction begun with READY high stands for (R205, R206): none when it carries no whole byte; a fetch
when its first byte is 0; otherwise the request of a well-formed frame, or a malformed frame with byte 0 as received. -/
def decodeTransaction (bs : List Byte) : Option Instr :=
  match bs with
  | [] => none
  | b :: _ =>
    if b = 0#8 then some (.fetch bs.length)
    else
      match decodeFrame bs with
      | some i => some i
      | none => some (.malformedFrame b.toNat)

/-! ## The encoder -/

/-- The bytes of an amending field of `w` bytes. -/
def wrGiven (w : Nat) (g : Given Nat) : List Byte := beBytes 1 g.sel ++ beBytes w g.val

/-- The bytes of an amending field of two values of `w` bytes each. -/
def wrGiven2 (w : Nat) (g : Given (Nat × Nat)) : List Byte := beBytes 1 g.sel ++ beBytes w g.val.1 ++ beBytes w g.val.2

/-- The bytes of an optional field of `w` bytes. -/
def wrOpt (w : Nat) (o : Opt Nat) : List Byte := beBytes 1 o.pres ++ beBytes w o.val

/-- The bytes of an optional pair of signed values. -/
def wrOptVec (o : Opt (Int × Int)) : List Byte := beBytes 1 o.pres ++ beSigned 4 o.val.1 ++ beSigned 4 o.val.2

/-- A signed field of `bits` bits as a number. -/
def fieldOf (bits : Nat) (i : Int) : Nat := (i % (2 ^ bits : Int)).toNat

/-- A compact stitch record (R216). -/
def wrCompact (r : RawStitch) : List Byte := beBytes 2 (r.kind * 16384 + fieldOf 7 r.dx * 128 + fieldOf 7 r.dy)

/-- A wide stitch record (R216). -/
def wrWide (r : RawStitch) : List Byte := beBytes 3 (r.kind * 4194304 + fieldOf 11 r.dx * 2048 + fieldOf 11 r.dy)

/-- The fields of PUT_RUN. -/
def wrRun (f : RunFields) : List Byte :=
  beBytes 3 f.first ++ beBytes 2 f.length ++ beBytes 1 f.passes ++ beBytes 1 f.slot ++ wrOptVec f.endShift ++
    wrOpt 2 f.next ++ beBytes 1 f.haltAfter ++ beBytes 1 f.trimAfter

/-- The fields of AMEND HEAD. -/
def wrHead (f : HeadFields) : List Byte :=
  wrGiven 1 f.enable ++ wrGiven 1 f.mask ++ wrGiven 1 f.onBreak ++ wrGiven 1 f.onTension ++ wrGiven 1 f.onBobbin ++
    wrGiven 1 f.onLost ++ wrGiven 1 f.onJam ++ wrGiven 3 f.bobbin

/-- The fields of AMEND PARAMETERS. -/
def wrParams (f : ParamFields) : List Byte :=
  wrGiven 2 f.vMin ++ wrGiven 2 f.vMax ++ wrGiven 2 f.vJump ++ wrGiven 2 f.vStop ++ wrGiven 2 f.slew ++
    wrGiven 2 f.stopSlew ++ wrGiven 2 f.fX ++ wrGiven 2 f.fY ++ wrGiven 2 f.kX ++ wrGiven 2 f.kY ++ wrGiven 2 f.fTrav ++
    wrGiven 2 f.wStart ++ wrGiven 2 f.wEnd ++ wrGiven 1 f.headsFitted ++ wrGiven 1 f.lostCount ++ wrGiven 2 f.selStep ++
    wrGiven 2 f.selSettle ++ wrGiven 2 f.selGrace ++ wrGiven 1 f.tensionCount ++ wrGiven 1 f.breakRatio ++
    wrGiven 1 f.breakCount ++ wrGiven 1 f.motionBase ++ wrGiven 2 f.motionRate ++ wrGiven 1 f.continueAfterChange ++
    wrGiven 1 f.startRepeat ++ wrGiven 2 f.stopLineCount ++ wrGiven 1 f.autoStrobe ++ wrGiven2 1 f.faultLine

/-- The code (R211) and the payload (R209) of a request; none for a command that is no request. -/
def encodeRequest : Instr → Option (Nat × List Byte)
  | .openDesign d => some (0x10, beBytes 1 d)
  | .putStitches d format count rs =>
      some (0x11, beBytes 1 d ++ beBytes 1 format ++ beBytes 1 count ++
        (if format = 0 then rs.flatMap wrCompact else if format = 1 then rs.flatMap wrWide else []))
  | .putRun d r f => some (0x12, beBytes 1 d ++ beBytes 2 r ++ wrRun f)
  | .retireRun d r => some (0x13, beBytes 1 d ++ beBytes 2 r)
  | .amendDesign d s cs =>
      some (0x14, beBytes 1 d ++ wrGiven 2 s ++ beBytes 1 cs.length ++
        cs.flatMap fun c => beBytes 1 c.slot ++ wrOpt 2 c.colour)
  | .seal d => some (0x15, beBytes 1 d)
  | .retireDesign d discard => some (0x16, beBytes 1 d ++ beBytes 1 discard)
  | .lookupDesign d => some (0x17, beBytes 1 d)
  | .lookupRun d r => some (0x18, beBytes 1 d ++ beBytes 2 r)
  | .lookupStitches d i n => some (0x19, beBytes 1 d ++ beBytes 3 i ++ beBytes 1 n)
  | .lookupOrdinal d o => some (0x1A, beBytes 1 d ++ beBytes 3 o)
  | .lookupLibrary => some (0x1B, [])
  | .amendHoop a b c d => some (0x20, beSigned 4 a ++ beSigned 4 b ++ beSigned 4 c ++ beSigned 4 d)
  | .lookupHoop => some (0x21, [])
  | .home => some (0x22, [])
  | .jog mode x y => some (0x23, beBytes 1 mode ++ beSigned 4 x ++ beSigned 4 y)
  | .lookupFrame => some (0x24, [])
  | .lookupMachine => some (0x30, [])
  | .amendMachine speed => some (0x31, wrGiven 2 speed)
  | .activate d ox oy orientation mirror sx sy discard =>
      some (0x32, beBytes 1 d ++ beSigned 4 ox ++ beSigned 4 oy ++ beBytes 1 orientation ++ beBytes 1 mirror ++
        beBytes 2 sx ++ beBytes 2 sy ++ beBytes 1 discard)
  | .deactivate discard => some (0x33, beBytes 1 discard)
  | .start => some (0x34, [])
  | .arm on => some (0x35, beBytes 1 on)
  | .stop n => some (0x36, beBytes 2 n)
  | .back n => some (0x37, beBytes 2 n)
  | .fwd n => some (0x38, beBytes 2 n)
  | .rewind discard => some (0x39, beBytes 1 discard)
  | .clear => some (0x3A, [])
  | .repair k => some (0x3B, beBytes 1 k)
  | .restart => some (0x3C, [])
  | .lookupPlan => some (0x40, [])
  | .lookupShaft => some (0x41, [])
  | .lookupChain => some (0x42, [])
  | .amendMap map unit ps =>
      some (0x50, beBytes 1 map ++ beBytes 1 unit ++ beBytes 1 ps.length ++
        ps.flatMap fun p => beBytes 1 p.slot ++ wrOpt 1 p.needle)
  | .amendMapMode mode => some (0x51, beBytes 1 mode)
  | .strobe map => some (0x52, beBytes 1 map)
  | .automap d map => some (0x53, beBytes 1 d ++ beBytes 1 map)
  | .lookupMap map unit => some (0x54, beBytes 1 map ++ beBytes 1 unit)
  | .lookupMaps => some (0x55, [])
  | .select h n => some (0x60, beBytes 1 h ++ beBytes 1 n)
  | .cancelChange h => some (0x61, beBytes 1 h)
  | .lookupSelectors => some (0x62, [])
  | .amendThread h n colour band state =>
      some (0x70, beBytes 1 h ++ beBytes 1 n ++ wrGiven 2 colour ++ wrGiven2 2 band ++ wrGiven 1 state)
  | .retireThread h n => some (0x71, beBytes 1 h ++ beBytes 1 n)
  | .lookupThread h n => some (0x72, beBytes 1 h ++ beBytes 1 n)
  | .lookupThreads h => some (0x73, beBytes 1 h)
  | .addSample angle heads cadence use =>
      some (0x74, beBytes 2 angle ++ beBytes 1 heads ++ beBytes 1 cadence ++ beBytes 1 use)
  | .retireSample i => some (0x75, beBytes 1 i)
  | .clearSchedule => some (0x76, [])
  | .lookupSchedule => some (0x77, [])
  | .lookupSensing h => some (0x78, beBytes 1 h)
  | .amendHead h f => some (0x80, beBytes 1 h ++ wrHead f)
  | .amendClearFaults h kinds => some (0x81, beBytes 1 h ++ beBytes 1 kinds)
  | .amendClearJam h => some (0x82, beBytes 1 h)
  | .park h => some (0x83, beBytes 1 h)
  | .restoreHead h => some (0x84, beBytes 1 h)
  | .lookupHead h => some (0x85, beBytes 1 h)
  | .lookupHeads => some (0x86, [])
  | .retireCase k => some (0x90, beBytes 1 k)
  | .lookupCase k => some (0x91, beBytes 1 k)
  | .lookupCases => some (0x92, [])
  | .amendParameters f => some (0xA0, wrParams f)
  | .lookupParameters => some (0xA1, [])
  | .fetch _ | .resetAssert | .resetRelease | .estopFall | .startLineFall | .stopLineFall | .mapstrobeFall _
  | .encoderCount _ _ _ _ | .drvFltFall | .homeSensorEdge _ _ | .headReport _ | .replySlotEnd _ | .idleExchange
  | .shaftStanding | .positioningComplete | .positioningTimeout | .indexWatchTrip | .reverseWatchTrip | .lost _
  | .selectorDeadlineExpiry _ | .homeNotFound _ | .tensionDeclared _ _ _ | .breakDeclared _ _ _ | .bobbinDeclared _ _
  | .sealComplete | .subMoveComplete | .traverseLegComplete | .malformedFrame _ => none

/-- The request frame of a code and payload (R206). -/
def frameOf (code : Nat) (payload : List Byte) : List Byte :=
  let body := beBytes 1 code ++ beBytes 1 payload.length ++ payload
  body ++ [crc8 body]

/-- The frame of a request; none for a command that is no request. -/
def encodeFrame (i : Instr) : Option (List Byte) := (encodeRequest i).map fun p => frameOf p.1 p.2

end Sys2Proof
end

