-- ==== Sys2Proof/Config.lean ====
section
/-! DEFINITION. What the manual fixes by number, and the free values: constants without a body, of which nothing can be
proved. Each is applied to the counter `free` of the state, or to the value it stands in for. -/

namespace Sys2Proof.Config

/-- Designs of the library (chapter 1). -/
def designCount : Nat := 16
/-- Pages of the pool, and records of a page (R2). -/
def pageCount : Nat := 512
/-- Stitch records of one page (R2). -/
def pageSize : Nat := 512
/-- Run descriptors of the pool (R4). -/
def descriptorCount : Nat := 2048
/-- Greatest T and greatest ordinal count of a chain (R14, check 5). -/
def maxT : Nat := 16777215
/-- Bound of hoop values, origins and extents (R14, R25, R27). -/
def span : Int := 8388607
/-- Planning queue length (R43). -/
def queueMax : Nat := 16
/-- Heads of the machine (00_scope.md, Conventions). -/
def headCount : Nat := 20
/-- Needles of a head. -/
def needleCount : Nat := 15
/-- Colour slots of a design. -/
def slotCount : Nat := 24
/-- Drive slots (R133). -/
def driveSlots : Nat := 6
/-- Sample entries of the schedule (R155). -/
def scheduleMax : Nat := 32
/-- Case records (R185). -/
def caseCount : Nat := 40
/-- Search pulses after which a home search fails (R36). -/
def searchPulses : Nat := 1048576

/-- FREE VALUE: how many pulses an axis has emitted since it was last looked at, before the bound the move sets
(R29, R39, R42 give only that N lies between start and target). Log entry 5. -/
opaque pulses : Nat → Nat

/-- FREE VALUE: the level an input line has when a tick looks at it; first argument the counter, second the line.
Log entry 6. -/
opaque line : Nat → Nat → Bool

/-- FREE VALUE: the measured speed when the quarter revolution took no whole microsecond (R68 divides by the time).
Log entry 17. -/
opaque speedOfNoTime : Nat → Nat

/-- FREE VALUE: what stands on the wire for a value too wide for its field: width in bytes, value (R209).
Log entry 16. -/
opaque overwide : Nat → Nat → Nat

/-- FREE VALUE: what stands on the wire for a signed value too wide for its field: width in bytes, value (R209).
Log entry 16. -/
opaque overwideSigned : Nat → Int → Nat

end Sys2Proof.Config
end

