-- ==== Sys2Proof/Machine/State.lean ====
section
/-! DEFINITION. The state of the 7720 as plain data: one structure for each block of the block diagram (00_scope.md),
gathered in `Part`, and the queue of waiting commands beside it. INVENTORY.md, section State, lists every field with the
rule that names it. -/

namespace Sys2Proof.Machine

/-- No command of the manual leaves the part without an effect, a refusal status or a stated "nothing changes", so the
model has no fault: the type has no constructor. (Safe: nothing is claimed of a fault.) -/
inductive Fault where
  deriving DecidableEq, Repr

/-- Refusals of the model. -/
inductive Refusal where
  /-- Raised by an arm of `exec` for a command without a meaning; safe. No arm raises it now. -/
  | notModelled (mnemonic : String)
  deriving DecidableEq, Repr

/-- The answer of a meaning. -/
abbrev Result (σ : Type) := Host.Outcome σ Fault Refusal

/-! ## Sorted maps: a list of (key, value) pairs with rising keys (INVENTORY.md, Memory and ordering) -/

/-- A sparse table from numbers to values, one canonical list for one table: keys strictly rising. -/
abbrev Table (α : Type) := List (Nat × α)

/-! ## The design library (chapter 1) -/

/-- R1. -/
inductive DesignState where
  | empty
  | loading
  | sealing
  | sealed
  | active
  deriving DecidableEq, Repr

/-- R3. -/
inductive StitchKind where
  | normal
  | jump
  | trim
  deriving DecidableEq, Repr

/-- A pair of signed figures on the X and Y axis: a displacement in units, a position in steps, an ideal position. -/
structure Vec where
  x : Int
  y : Int
  deriving DecidableEq, Repr

/-- A stored stitch record (R3). -/
structure Stitch where
  kind : StitchKind
  d : Vec
  deriving DecidableEq, Repr

/-- A written run descriptor (section 1.3), without its derived fields. -/
structure Run where
  first : Nat
  length : Nat
  passes : Nat
  slot : Nat
  endShift : Option Vec
  next : Option Nat
  haltAfter : Bool
  trimAfter : Bool
  deriving DecidableEq, Repr

/-- The error kinds of a seal, in the order of the checks of R14. -/
inductive SealError where
  | noStart
  | badRange
  | badSlot
  | trimShift
  | tooLong
  | extent
  | noRun
  | loop
  deriving DecidableEq, Repr

/-- The seal result (section 1.1). -/
inductive SealResult where
  | none
  | ok
  | abandoned
  | error (kind : SealError) (run : Nat)
  deriving DecidableEq, Repr

/-- A rectangle with its sides along the axes: an extent in units (R16) or the hoop field in steps (R27). -/
structure Box where
  minX : Int
  maxX : Int
  minY : Int
  maxY : Int
  deriving DecidableEq, Repr

/-- An entry of the chain order list with the derived fields of its run (R15). -/
structure ChainEntry where
  run : Nat
  base : Nat
  start : Vec
  shift : Vec
  count : Nat
  block : Nat
  deriving DecidableEq, Repr

/-- An entry of the colour block table (R12). -/
structure Block where
  number : Nat
  slot : Nat
  firstEntry : Nat
  first : Nat
  last : Nat
  deriving DecidableEq, Repr

/-- The derived fields of a sealed design (R15, R17). -/
structure Derived where
  total : Nat
  chain : List ChainEntry
  blocks : List Block
  extent : Box
  deriving DecidableEq, Repr

/-- A design record (section 1.1). -/
structure Design where
  state : DesignState
  pages : List Nat
  count : Nat
  runs : Table Run
  startRun : Nat
  slots : List (Option Nat)
  result : SealResult
  derived : Option Derived
  deriving DecidableEq, Repr

/-- The design library: the 16 designs, the two pools, the stored stitch records and the sealer. -/
structure Library where
  designs : List Design
  freePages : List Nat
  freeRuns : Nat
  stitches : Table Stitch
  sealer : Option Nat
  deriving DecidableEq, Repr

/-! ## The frame positioner (chapter 2) -/

/-- R25. -/
inductive Orientation where
  | r0
  | r90
  | r180
  | r270
  deriving DecidableEq, Repr

/-- The placement record (R25). -/
structure Placement where
  origin : Vec
  orientation : Orientation
  mirrorX : Bool
  scaleX : Nat
  scaleY : Nat
  deriving DecidableEq, Repr

/-- R36, R41. -/
inductive HomeResult where
  | none
  | ok
  | notFound
  deriving DecidableEq, Repr

/-- The kinds of frame move (R39). -/
inductive MoveKind where
  | leg
  | homeSearch
  | sewing
  deriving DecidableEq, Repr

/-- Where one axis stands in a home search (R36): leaving an active sensor, running negative from the position at which
that run began, or stopped at its sensor. -/
inductive Search where
  | leaving
  | seeking (start : Int)
  | found
  deriving DecidableEq, Repr

/-- The move in progress, or the interrupted move (R39, R42). `goal` is where the pulses ordered so far end: the target of
a leg, the end of the sub-moves issued for a sewing move. -/
structure Move where
  kind : MoveKind
  start : Vec
  target : Vec
  goal : Vec
  interrupted : Bool
  stopping : Bool
  rate : Nat
  searchX : Search
  searchY : Search
  deriving DecidableEq, Repr

/-- The frame positioner (R29, R36, R39, R41). `busy`: a sub-move has been handed to the generators and is not complete. -/
structure Positioner where
  placement : Option Placement
  hoop : Box
  n : Vec
  p : Option Vec
  plan : Option Vec
  homed : Bool
  homeResult : HomeResult
  dirX : Bool
  dirY : Bool
  move : Option Move
  busy : Bool
  deriving DecidableEq, Repr

/-! ## The motion planner (chapter 3) -/

/-- The kind cap of an entry (R44). -/
inductive Cap where
  | vMax
  | vJump
  | vStop
  deriving DecidableEq, Repr

/-- One planned revolution (R43). -/
structure Entry where
  ordinal : Nat
  index : Nat
  count : Nat
  steps : Vec
  down : Bool
  trim : Bool
  cap : Cap
  vLim : Nat
  vAllow : Nat
  stopAfter : Bool
  issued : Bool
  complete : Bool
  deriving DecidableEq, Repr

/-- The origin of a planned stop (R55). -/
inductive StopOrigin where
  | halt
  | colour
  | designEnd
  | count
  | line
  | repair
  deriving DecidableEq, Repr

/-- The planned stop record (R55). -/
inductive PlannedStop where
  | none
  | pending (ordinal : Nat) (trim : Bool) (origin : StopOrigin)
  | placed (ordinal : Nat) (trim : Bool) (origin : StopOrigin)
  deriving DecidableEq, Repr

/-- The fill point (R45): the next pair to be planned, and the step counts and sub-move count of the ordinal being filled
once they have been taken. -/
structure FillPoint where
  ordinal : Nat
  index : Nat
  split : Option (Vec × Nat)
  deriving DecidableEq, Repr

/-- The motion planner (R43, R45, R50, R51, R55). -/
structure Planner where
  queue : List Entry
  fill : Option FillPoint
  stop : PlannedStop
  demand : Nat
  prev : Option Nat
  vSet : Nat
  requested : Nat
  deriving DecidableEq, Repr

/-! ## The shaft monitor (chapter 4) -/

/-- R70. -/
inductive Drive where
  | disabled
  | holding
  | turning
  | positioning
  deriving DecidableEq, Repr

/-- The last encoder fault (R67). -/
inductive EncoderFault where
  | none
  | index
  | reverse
  deriving DecidableEq, Repr

/-- The shaft monitor (R65 to R73). `lastIndex` is the level of ENC_I at the last count (R66). The four `spent` flags are set
at the delivery of a landmark and cleared half a revolution later (R69). Times are microseconds of the model's clock. -/
structure Shaft where
  angle : Nat
  reverse : Bool
  lastIndex : Bool
  synced : Bool
  correction : Int
  indexCount : Nat
  reverseRun : Nat
  spentStart : Bool
  spentCommit : Bool
  spentExchange : Bool
  spentTrim : Bool
  startAngle : Nat
  speed : Nat
  standing : Bool
  lastQuarter : Option Nat
  lastCount : Nat
  drive : Drive
  demand : Nat
  runWaiting : Bool
  posSince : Option Nat
  lastFault : EncoderFault
  deriving DecidableEq, Repr

/-! ## The head chain controller (chapter 4) -/

/-- R74. -/
inductive ExchangeKind where
  | sewing
  | idle
  deriving DecidableEq, Repr

/-- R155. -/
inductive SampleUse where
  | check
  | settle
  deriving DecidableEq, Repr

/-- A sample order (R76): angle and use. -/
structure SampleOrder where
  angle : Nat
  use : SampleUse
  deriving DecidableEq, Repr

/-- The needle command a head board holds (R76): the ordinal of its tag, the mode, the trim flag and the sample orders. -/
structure Command where
  ordinal : Option Nat
  down : Bool
  trim : Bool
  orders : List SampleOrder
  deriving DecidableEq, Repr

/-- What a head board must have latched at a commit frame (R77), with the span needle (R158), the orders its samples
answer (R79) and whether the frame carried the hold flag of a late move (R79). -/
structure Latch where
  ordinal : Option Nat
  down : Bool
  needle : Option Nat
  orders : List SampleOrder
  held : Bool
  deriving DecidableEq, Repr

/-- The outcome of a head's report (R83). -/
inductive ReportOutcome where
  | valid
  | missing
  | mismatched
  deriving DecidableEq, Repr

/-- What the head chain controller keeps of one head: the missing-report count (R81), the outcome of the last report (R83),
the needle command last sent since the last commit frame and the one last commanded (R77, R83), the record of the last
commit frame, the expectation of the exchange in progress and the one of the next sewing exchange (R79), and the button
flag of the last valid report (R80). -/
structure HeadLink where
  missing : Nat
  outcome : Option ReportOutcome
  sent : Option Command
  commanded : Command
  recorded : Latch
  expected : Latch
  opened : Latch
  button : Option Bool
  deriving DecidableEq, Repr

/-- An exchange in its report phase (R75): its kind, the head whose reply slot comes next or runs, the heads taking part. -/
structure Exchange where
  kind : ExchangeKind
  slot : Nat
  fitted : Nat
  deriving DecidableEq, Repr

/-- The selector order of a command (R76). -/
inductive SelectorOrder where
  | none
  | move (target : Nat)
  | halt
  deriving DecidableEq, Repr

/-- The purpose of a hold frame (R77). -/
inductive Purpose where
  | commit
  | trim
  deriving DecidableEq, Repr

/-- A command frame (R76, R218). -/
structure CommandFrame where
  head : Nat
  seq : Nat
  sewing : Bool
  command : Command
  acknowledge : Bool
  revised : Bool
  speed : Nat
  order : SelectorOrder
  deriving DecidableEq, Repr

/-- A frame the part puts on the head chain (R217, R218). -/
inductive ChainFrame where
  | poll (seq : Nat) (kind : ExchangeKind) (fitted : Nat)
  | command (frame : CommandFrame)
  | hold (seq : Nat) (purpose : Purpose) (flag : Bool)
  deriving DecidableEq, Repr

/-- The head chain controller (R74 to R83). `out` holds the frames put on the chain and not yet gone out. -/
structure Chain where
  seq : Nat
  lastKind : ExchangeKind
  lastStart : Nat
  exchange : Option Exchange
  openVoid : Bool
  closingVoid : Bool
  links : List HeadLink
  out : List ChainFrame
  deriving DecidableEq, Repr

/-! ## The run controller (chapter 5) -/

/-- The nine controller states (R84). -/
inductive CtlState where
  | unready
  | traversing
  | ready
  | starting
  | running
  | stopping
  | changing
  | repairing
  | locked
  deriving DecidableEq, Repr

/-- R84. -/
inductive StopPhase where
  | slowing
  | settling
  deriving DecidableEq, Repr

/-- The stop causes of R85, NONE first. -/
inductive Cause where
  | none
  | activated
  | stop
  | line
  | count
  | halt
  | colour
  | designEnd
  | fault
  | jam
  | casesFull
  | cleared
  | repairDone
  deriving DecidableEq, Repr

/-- The pending causes of R84. -/
inductive Pending where
  | stop
  | line
  | fault
  | casesFull
  deriving DecidableEq, Repr

/-- The lock causes of R104. -/
inductive LockCause where
  | estop
  | drive
  | encoder
  | positioning
  deriving DecidableEq, Repr

/-- The travel kinds of R84. `repairLeg` is never set: a repair leg runs in REPAIRING, where travel is absent (DESIGN CHOICE, log entry
60). -/
inductive TravelKind where
  | activate
  | back
  | fwd
  | rewind
  | home
  | jog
  | clear
  | repairLeg
  deriving DecidableEq, Repr

/-- The target of a travel (R84, R101): an ordinal for BACK and FWD, a frame position otherwise. -/
inductive TravelTarget where
  | ordinal (o : Nat)
  | frame (v : Vec)
  deriving DecidableEq, Repr

/-- The travel of the machine record (R84), with the stop asked for during a BACK or FWD and the cause a fault stop gives
it (R97, R102). -/
structure Travel where
  kind : TravelKind
  target : TravelTarget
  stopAsked : Bool
  cause : Option Cause
  deriving DecidableEq, Repr

/-- The locked-from record (R84, R104). -/
structure LockedFrom where
  state : CtlState
  phase : Option StopPhase
  travel : Option Travel
  deriving DecidableEq, Repr

/-- How the controller came into CHANGING (R84). -/
inductive ChangeKind where
  | colour
  | start
  deriving DecidableEq, Repr

/-- The change entry of the machine record (R84). -/
structure ChangeEntry where
  kind : ChangeKind
  slot : Nat
  deriving DecidableEq, Repr

/-- The phases of a repair run (R107). -/
inductive RepairPhase where
  | outbound
  | prepare
  | sewing
  | homebound
  deriving DecidableEq, Repr

/-- The repair context (R196), and whether the stop of its SEWING phase has been reached (R202). -/
structure Repair where
  caseNo : Nat
  head : Nat
  ret : Nat
  phase : RepairPhase
  target : Option Nat
  breakOrdinal : Option Nat
  endCause : Option Cause
  stopReached : Bool
  deriving DecidableEq, Repr

/-- The machine record (R84). change-due is computed (`changeDue` in Flags.lean). -/
structure Controller where
  state : CtlState
  phase : Option StopPhase
  cause : Cause
  pending : Option Pending
  origin : Option StopOrigin
  lockCause : Option LockCause
  lockedFrom : Option LockedFrom
  design : Option Nat
  c : Option Nat
  slot : Option Nat
  change : Option ChangeEntry
  armed : Bool
  travel : Option Travel
  repair : Option Repair
  deriving DecidableEq, Repr

/-! ## The needle map unit (chapter 6) -/

/-- R110. -/
inductive MapMode where
  | head
  | bank
  deriving DecidableEq, Repr

/-- The two staged maps (R110). -/
inductive Staged where
  | a
  | b
  deriving DecidableEq, Repr

/-- The origin of the active map (R112). -/
inductive MapOrigin where
  | default
  | a
  | b
  | edited
  deriving DecidableEq, Repr

/-- Where a strobe came from (R116). -/
inductive StrobeSource where
  | request
  | line
  | auto
  deriving DecidableEq, Repr

/-- The outcome of a strobe (R116). -/
inductive StrobeOutcome where
  | applied
  | held
  | discarded
  | ignored
  deriving DecidableEq, Repr

/-- The last strobe record (R116). -/
structure StrobeRecord where
  source : StrobeSource
  map : Staged
  outcome : StrobeOutcome
  state : CtlState
  deriving DecidableEq, Repr

/-- A held strobe (R119). -/
structure HeldStrobe where
  source : StrobeSource
  map : Staged
  deriving DecidableEq, Repr

/-- A needle map: its units in order, each with its 24 entries (R110). -/
abbrev NeedleMap := List (List (Option Nat))

/-- The needle map unit (R110, R112, R116, R119). -/
structure Maps where
  mode : MapMode
  active : NeedleMap
  origin : MapOrigin
  a : NeedleMap
  b : NeedleMap
  loadedA : Bool
  loadedB : Bool
  held : Option HeldStrobe
  last : Option StrobeRecord
  deriving DecidableEq, Repr

/-! ## The selector arbiter (chapter 7) -/

/-- R129. -/
inductive SelectorState where
  | atNeedle (n : Nat)
  | moving
  | jammed
  | unsure
  deriving DecidableEq, Repr

/-- A reported selector position (R75): a detent, or BETWEEN as none, and the moving flag. -/
structure Reported where
  detent : Option Nat
  moving : Bool
  deriving DecidableEq, Repr

/-- The selector record (R129), with the live mark of JAM (R171: set at each declaration, cleared when the selector next
becomes AT_NEEDLE). -/
structure Selector where
  state : SelectorState
  reported : Option Reported
  latched : Option Nat
  skip : Option Nat
  halt : Bool
  jamLive : Bool
  deriving DecidableEq, Repr

/-- R132. -/
inductive RequestOrigin where
  | demand
  | manual
  deriving DecidableEq, Repr

/-- R132. -/
inductive FailKind where
  | jam
  | lost
  | abort
  deriving DecidableEq, Repr

/-- The states of a change request (R132). -/
inductive RequestState where
  | none
  | pending
  | moving
  | done
  | cancelled
  | failed (kind : FailKind)
  deriving DecidableEq, Repr

/-- The change request record (R132). `source` is the detent at the grant, none for UNSURE; `expected` is in ms, `deadline`
the moment on the model's clock. -/
structure ChangeRequest where
  target : Nat
  origin : RequestOrigin
  state : RequestState
  occurred : Bool
  cancelAsked : Bool
  cancelFinished : Bool
  changeNo : Option Nat
  source : Option Nat
  expected : Option Nat
  deadline : Option Nat
  deriving DecidableEq, Repr

/-- The change record (R142). -/
structure ChangeRecord where
  number : Nat
  block : Nat
  slot : Nat
  kind : ChangeKind
  jamStop : Bool
  waiting : List Nat
  added : Nat
  latched : Nat
  satOut : Nat
  parked : Nat
  isOpen : Bool
  deriving DecidableEq, Repr

/-- The selector arbiter (R129, R132, R133, R142). -/
structure Arbiter where
  selectors : List Selector
  requests : List ChangeRequest
  slots : List (Option Nat)
  change : Option ChangeRecord
  nextNumber : Nat
  deriving DecidableEq, Repr

/-! ## The thread monitor (chapter 8) -/

/-- R151. -/
inductive ThreadState where
  | empty
  | ready
  | broken
  | blocked
  deriving DecidableEq, Repr

/-- A thread record (R151). -/
structure Thread where
  colour : Option Nat
  low : Nat
  high : Nat
  state : ThreadState
  deriving DecidableEq, Repr

/-- A sample entry (R155); heads none means ALL. -/
structure SampleEntry where
  angle : Nat
  head : Option Nat
  cadence : Nat
  use : SampleUse
  deriving DecidableEq, Repr

/-- The verdict on one sample (R167). -/
inductive SampleVerdict where
  | inBand
  | outOfBand
  | settle
  | missing
  deriving DecidableEq, Repr

/-- A sample of an evaluated span as it is kept (R167): the value reported, absent when it was MISSING, its use and the verdict. -/
structure SpanSample where
  value : Option Nat
  use : SampleUse
  verdict : SampleVerdict
  deriving DecidableEq, Repr

/-- The last span of a head (R167): evaluated, or the reason it was passed over. -/
inductive LastSpan where
  | noReport
  | notSewn
  | held
  | voidSpan
  | notReady
  | evaluated (ordinal needle pulses length expected : Nat) (low : Bool) (samples : List SpanSample)
  deriving DecidableEq, Repr

/-- What the thread monitor keeps of one head (R158, R160, R162, R167), with the live mark of TENSION (R171). -/
structure Sensing where
  debounce : Nat
  lowRun : Nat
  firstLow : Option Nat
  noted : List (Nat × Nat)
  lastSpan : Option LastSpan
  tensionLive : Bool
  deriving DecidableEq, Repr

/-- The thread monitor: the records of 20 heads by 15 needles, the schedule, the lengths of R159. -/
structure Monitor where
  threads : List (List Thread)
  schedule : List SampleEntry
  sensing : List Sensing
  lengths : List (Nat × Nat)
  deriving DecidableEq, Repr

/-! ## The head table and fault unit (chapter 9) -/

/-- The five kinds of fault (R171). -/
inductive FaultKind where
  | break_
  | tension
  | bobbin
  | lost
  | jam
  deriving DecidableEq, Repr

/-- A set of fault kinds: latches, mask, live status (R169, R209). -/
structure KindSet where
  break_ : Bool
  tension : Bool
  bobbin : Bool
  lost : Bool
  jam : Bool
  deriving DecidableEq, Repr

/-- R172. -/
inductive FaultAction where
  | stop
  | park
  | note
  deriving DecidableEq, Repr

/-- R169. -/
inductive ParkCause where
  | break_
  | tension
  | bobbin
  | lost
  | jam
  | operator
  deriving DecidableEq, Repr

/-- R169. -/
inductive HeadState where
  | active
  | parked (cause : ParkCause)
  | disabled
  deriving DecidableEq, Repr

/-- The fault action of each kind (R172). -/
structure Actions where
  break_ : FaultAction
  tension : FaultAction
  bobbin : FaultAction
  lost : FaultAction
  jam : FaultAction
  deriving DecidableEq, Repr

/-- The outcomes of a button press (R179). -/
inductive ButtonOutcome where
  | parked
  | restored
  | refused
  | ignored
  deriving DecidableEq, Repr

/-- The head record (R169). Live status is computed in Flags.lean. -/
structure Head where
  enable : Bool
  state : HeadState
  latches : KindSet
  mask : KindSet
  actions : Actions
  lastBreak : Option Nat
  bobbin : Option Nat
  button : Option (ButtonOutcome × Nat)
  deriving DecidableEq, Repr

/-! ## The case table (chapter 10) -/

/-- R185. -/
inductive CaseState where
  | isOpen
  | closed
  | repairing
  | mended
  deriving DecidableEq, Repr

/-- A case (R185); `last` is absent while OPEN, `floor` present only while OPEN, `progress` only while REPAIRING. -/
structure Case where
  head : Nat
  design : Nat
  slot : Nat
  first : Nat
  last : Option Nat
  floor : Option Nat
  state : CaseState
  progress : Option Nat
  deriving DecidableEq, Repr

/-- The case table: the 40 records, and the restore marks of R193. -/
structure Cases where
  records : List (Option Case)
  marks : List (Option Nat)
  deriving DecidableEq, Repr

/-! ## Parameters, the request port, the lines -/

/-- R122. -/
inductive AutoStrobe where
  | off
  | a
  | b
  | line
  deriving DecidableEq, Repr

/-- The parameter record (R61, R108, R122, R134, R166, R183, R212). `follow` is the head of FOLLOW, none for ALL. -/
structure Params where
  vMin : Nat
  vMax : Nat
  vJump : Nat
  vStop : Nat
  slew : Nat
  stopSlew : Nat
  fX : Nat
  fY : Nat
  kX : Nat
  kY : Nat
  fTrav : Nat
  wStart : Nat
  wEnd : Nat
  headsFitted : Nat
  lostCount : Nat
  selStep : Nat
  selSettle : Nat
  selGrace : Nat
  tensionCount : Nat
  breakRatio : Nat
  breakCount : Nat
  motionBase : Nat
  motionRate : Nat
  continueAfterChange : Bool
  startRepeat : Bool
  stopLineCount : Nat
  autoStrobe : AutoStrobe
  follow : Option Nat
  deriving DecidableEq, Repr

/-- The notice kinds (R213). -/
inductive Notice where
  | stopped
  | fault
  | sealed
  | case
  | selectDone
  | homed
  | cleared
  deriving DecidableEq, Repr

/-- The notice set (R213): each kind at most once. -/
structure Notices where
  stopped : Bool
  fault : Bool
  sealed : Bool
  case : Bool
  selectDone : Bool
  homed : Bool
  cleared : Bool
  deriving DecidableEq, Repr

/-- The statuses of R210. -/
inductive Status where
  | done
  | taken
  | state
  | busy
  | noRecord
  | range
  | full
  | cases
  | notHomed
  | locked
  | malformed
  deriving DecidableEq, Repr

/-- One field of a response payload, by its encoding in R209: an unsigned value of so many bytes, or a signed one. -/
inductive Item where
  | u (bytes value : Nat)
  | s (bytes : Nat) (value : Int)
  deriving DecidableEq, Repr

/-- A response (R207): the request code answered, the status, the payload. -/
structure Response where
  code : Nat
  status : Status
  payload : List Item
  deriving DecidableEq, Repr

/-- The request port (R205 to R207, R213, R214). `sdo` holds the bytes SDO carried in the last transaction; every byte beyond
the list is 0x00, so it is empty after a request frame (R205). -/
structure Port where
  ready : Bool
  inReset : Bool
  held : Option Response
  notices : Notices
  sdo : List Byte
  deriving DecidableEq, Repr

/-- The levels of the input lines (signal summary of 00_scope.md): true is the high level. -/
structure Lines where
  estop : Bool
  start : Bool
  stop : Bool
  mapstrobe : Bool
  mapsel : Bool
  encA : Bool
  encB : Bool
  encI : Bool
  drvFlt : Bool
  drvPos : Bool
  xHome : Bool
  yHome : Bool
  deriving DecidableEq, Repr

/-- The whole part: its blocks, its parameters, port and lines, the model's clock in microseconds and the model's counter
of free values. -/
structure Part where
  lib : Library
  pos : Positioner
  plan : Planner
  shaft : Shaft
  chain : Chain
  ctl : Controller
  maps : Maps
  arb : Arbiter
  mon : Monitor
  heads : List Head
  cases : Cases
  par : Params
  port : Port
  lines : Lines
  now : Nat
  free : Nat
  deriving DecidableEq, Repr

/-- The state of the model: the part, and the commands that wait, first in, first out. -/
structure State where
  part : Part
  pending : List Instr
  deriving DecidableEq, Repr

/-! ## Reset values -/

/-- R5, R22. -/
def Design.reset : Design :=
  { state := .empty, pages := [], count := 0, runs := [], startRun := 0,
    slots := List.replicate Config.slotCount none, result := .none, derived := none }

/-- R22. -/
def Library.reset : Library :=
  { designs := List.replicate Config.designCount Design.reset, freePages := List.range Config.pageCount,
    freeRuns := Config.descriptorCount, stitches := [], sealer := none }

/-- The whole range of frame positions (R27). -/
def Box.whole : Box :=
  { minX := -Config.span, maxX := Config.span, minY := -Config.span, maxY := Config.span }

/-- R41. -/
def Positioner.reset : Positioner :=
  { placement := none, hoop := Box.whole, n := ⟨0, 0⟩, p := none, plan := none, homed := false, homeResult := .none,
    dirX := false, dirY := false, move := none, busy := false }

/-- R51, R64; the previous demand absent at reset and after a flush (R46; DESIGN CHOICE, log entry 57). -/
def Planner.reset : Planner :=
  { queue := [], fill := none, stop := .none, demand := 0, prev := none, vSet := 800, requested := 800 }

/-- R65 to R73; the landmark flags by log entry 28. -/
def Shaft.reset : Shaft :=
  { angle := 0, reverse := false, lastIndex := false, synced := false, correction := 0, indexCount := 0, reverseRun := 0, spentStart := false,
    spentCommit := false, spentExchange := false, spentTrim := false, startAngle := 720, speed := 0, standing := true,
    lastQuarter := none, lastCount := 0, drive := .disabled, demand := 0, runWaiting := false, posSince := none,
    lastFault := .none }

/-- Tag none and HELD (R76, R82). -/
def Command.idle : Command := { ordinal := none, down := false, trim := false, orders := [] }

/-- Tag none and HELD (R82). -/
def Latch.none : Latch := { ordinal := .none, down := false, needle := .none, orders := [], held := false }

/-- R82. -/
def HeadLink.reset : HeadLink :=
  { missing := 0, outcome := none, sent := none, commanded := Command.idle, recorded := Latch.none,
    expected := Latch.none, opened := Latch.none, button := none }

/-- R82. -/
def Chain.reset : Chain :=
  { seq := 0, lastKind := .idle, lastStart := 0, exchange := none, openVoid := false, closingVoid := false,
    links := List.replicate Config.headCount HeadLink.reset, out := [] }

/-- R108. -/
def Controller.reset : Controller :=
  { state := .unready, phase := none, cause := .none, pending := none, origin := none, lockCause := none,
    lockedFrom := none, design := none, c := none, slot := none, change := none, armed := false, travel := none,
    repair := none }

/-- Units of a map in a mode (R110). -/
def MapMode.units : MapMode → Nat
  | .head => 20
  | .bank => 4

/-- Needle s in slot s for s from 1 to 15, absent for slots 16 to 24, in every unit (R115, R128). -/
def NeedleMap.default (m : MapMode) : NeedleMap :=
  List.replicate m.units ((List.range Config.slotCount).map fun i => if i < Config.needleCount then some (i + 1) else none)

/-- Every entry absent (R115, R128). -/
def NeedleMap.absent (m : MapMode) : NeedleMap :=
  List.replicate m.units (List.replicate Config.slotCount none)

/-- R128. -/
def Maps.reset : Maps :=
  { mode := .bank, active := NeedleMap.default .bank, origin := .default, a := NeedleMap.absent .bank,
    b := NeedleMap.absent .bank, loadedA := false, loadedB := false, held := none, last := none }

/-- R129, R149. -/
def Selector.reset : Selector :=
  { state := .unsure, reported := none, latched := none, skip := none, halt := false, jamLive := false }

/-- R132, R149. -/
def ChangeRequest.reset : ChangeRequest :=
  { target := 0, origin := .demand, state := .none, occurred := false, cancelAsked := false, cancelFinished := false,
    changeNo := none, source := none, expected := none, deadline := none }

/-- R149. -/
def Arbiter.reset : Arbiter :=
  { selectors := List.replicate Config.headCount Selector.reset,
    requests := List.replicate Config.headCount ChangeRequest.reset,
    slots := List.replicate Config.driveSlots none, change := none, nextNumber := 0 }

/-- R151, R168: EMPTY, no colour, the full band. -/
def Thread.reset : Thread := { colour := none, low := 0, high := 1023, state := .empty }

/-- R168. -/
def Sensing.reset : Sensing :=
  { debounce := 0, lowRun := 0, firstLow := none, noted := [], lastSpan := none, tensionLive := false }

/-- R168. -/
def Monitor.reset : Monitor :=
  { threads := List.replicate Config.headCount (List.replicate Config.needleCount Thread.reset), schedule := [],
    sensing := List.replicate Config.headCount Sensing.reset, lengths := [] }

/-- No kind. -/
def KindSet.none : KindSet := ⟨false, false, false, false, false⟩

/-- R172. -/
def Actions.reset : Actions := { break_ := .stop, tension := .note, bobbin := .stop, lost := .stop, jam := .stop }

/-- R184, with all twenty heads fitted. -/
def Head.reset : Head :=
  { enable := true, state := .active, latches := KindSet.none, mask := KindSet.none, actions := Actions.reset,
    lastBreak := none, bobbin := none, button := none }

/-- R204. -/
def Cases.reset : Cases :=
  { records := List.replicate Config.caseCount none, marks := List.replicate Config.headCount none }

/-- The defaults of R61, R108, R122, R134, R166, R183. -/
def Params.reset : Params :=
  { vMin := 200, vMax := 1200, vJump := 400, vStop := 300, slew := 80, stopSlew := 300, fX := 40000, fY := 40000,
    kX := 3200, kY := 3200, fTrav := 8000, wStart := 720, wEnd := 180, headsFitted := 20, lostCount := 3, selStep := 45,
    selSettle := 60, selGrace := 250, tensionCount := 4, breakRatio := 8, breakCount := 3, motionBase := 6,
    motionRate := 160, continueAfterChange := false, startRepeat := false, stopLineCount := 0, autoStrobe := .off,
    follow := none }

/-- R213. -/
def Notices.none : Notices := ⟨false, false, false, false, false, false, false⟩

/-- R207, R213, R214: READY has risen, no response is held, the notice set is empty. -/
def Port.reset : Port := { ready := true, inReset := false, held := none, notices := Notices.none, sdo := [] }

/-- DESIGN CHOICE (log entry 6): the lines that are active low stand high, the others low. Unsafe. -/
def Lines.inactive : Lines :=
  { estop := true, start := true, stop := true, mapstrobe := true, mapsel := false, encA := false, encB := false,
    encI := false, drvFlt := true, drvPos := false, xHome := true, yHome := true }

/-- Every block at its reset value, the lines inactive, the clock and the counter of free values at 0 (log entries 3, 4). -/
def Part.reset : Part :=
  { lib := Library.reset, pos := Positioner.reset, plan := Planner.reset, shaft := Shaft.reset, chain := Chain.reset,
    ctl := Controller.reset, maps := Maps.reset, arb := Arbiter.reset, mon := Monitor.reset,
    heads := List.replicate Config.headCount Head.reset, cases := Cases.reset, par := Params.reset, port := Port.reset,
    lines := Lines.inactive, now := 0, free := 0 }

/-- The machine right after the RESET line has risen (R214), with no command waiting. -/
def State.reset : State := { part := Part.reset, pending := [] }

end Sys2Proof.Machine
end

