-- ==== Sys2Proof/Machine/Ops.lean ====
section
/-! DEFINITION. The named operations everything else is built from: sorted tables, the records of one head, design or
case, the notice set, the frame of a response and the response itself, and the two shapes of a meaning: a request, which
leaves a response, and an event, which leaves none. -/

namespace Sys2Proof.Machine

/-! ## Vectors -/

/-- The origin. -/
def Vec.zero : Vec := ⟨0, 0⟩
/-- Sum, axis by axis. -/
def Vec.add (a b : Vec) : Vec := ⟨a.x + b.x, a.y + b.y⟩
/-- Difference, axis by axis. -/
def Vec.sub (a b : Vec) : Vec := ⟨a.x - b.x, a.y - b.y⟩
/-- A whole multiple. -/
def Vec.times (k : Nat) (a : Vec) : Vec := ⟨k * a.x, k * a.y⟩

/-! ## Sorted tables -/

/-- The value a key is listed with. -/
def lookupKey {α : Type} (k : Nat) : Table α → Option α
  | [] => none
  | (j, v) :: rest => if j = k then some v else lookupKey k rest

/-- List a key with a value, in place of the value it had. -/
def insertKey {α : Type} (k : Nat) (v : α) : Table α → Table α
  | [] => [(k, v)]
  | (j, w) :: rest =>
    if k < j then (k, v) :: (j, w) :: rest
    else if k = j then (k, v) :: rest
    else (j, w) :: insertKey k v rest

/-- Take a key off the list. -/
def eraseKey {α : Type} (k : Nat) : Table α → Table α
  | [] => []
  | (j, w) :: rest => if j = k then eraseKey k rest else (j, w) :: eraseKey k rest

/-- Keys strictly rising: the canonical form of a table. -/
def sortedTable {α : Type} : Table α → Bool
  | [] => true
  | [_] => true
  | (j, _) :: (k, w) :: rest => decide (j < k) && sortedTable ((k, w) :: rest)

/-! ## Entry `i` of a list counted from 1 (heads, needles, slots, units) -/

/-- Entry `i`, counted from 1; `d` outside the list. -/
def nth1 {α : Type} (l : List α) (d : α) (i : Nat) : α := if i = 0 then d else l.getD (i - 1) d

/-- Replace entry `i`, counted from 1; nothing outside the list. -/
def set1 {α : Type} (l : List α) (i : Nat) (v : α) : List α := if i = 0 then l else l.set (i - 1) v

/-- The heads 1 to 20. -/
def allHeads : List Nat := (List.range Config.headCount).map (· + 1)

/-- The heads 1 to heads_fitted (R74, R183). -/
def Part.fittedHeads (p : Part) : List Nat := (List.range p.par.headsFitted).map (· + 1)

/-! ## Records of one head -/

/-- The head record of head `h` (R169). -/
def Part.head (p : Part) (h : Nat) : Head := nth1 p.heads Head.reset h
/-- Store the head record of head `h`. -/
def Part.setHead (p : Part) (h : Nat) (r : Head) : Part := { p with heads := set1 p.heads h r }
/-- What the chain controller keeps of head `h`. -/
def Part.link (p : Part) (h : Nat) : HeadLink := nth1 p.chain.links HeadLink.reset h
/-- Store what the chain controller keeps of head `h`. -/
def Part.setLink (p : Part) (h : Nat) (r : HeadLink) : Part :=
  { p with chain := { p.chain with links := set1 p.chain.links h r } }
/-- The selector record of head `h` (R129). -/
def Part.selector (p : Part) (h : Nat) : Selector := nth1 p.arb.selectors Selector.reset h
/-- Store the selector record of head `h`. -/
def Part.setSelector (p : Part) (h : Nat) (r : Selector) : Part :=
  { p with arb := { p.arb with selectors := set1 p.arb.selectors h r } }
/-- The change request record of head `h` (R132). -/
def Part.changeRequest (p : Part) (h : Nat) : ChangeRequest := nth1 p.arb.requests ChangeRequest.reset h
/-- Store the change request record of head `h`. -/
def Part.setChangeRequest (p : Part) (h : Nat) (r : ChangeRequest) : Part :=
  { p with arb := { p.arb with requests := set1 p.arb.requests h r } }
/-- What the thread monitor keeps of head `h`. -/
def Part.sensing (p : Part) (h : Nat) : Sensing := nth1 p.mon.sensing Sensing.reset h
/-- Store what the thread monitor keeps of head `h`. -/
def Part.setSensing (p : Part) (h : Nat) (r : Sensing) : Part :=
  { p with mon := { p.mon with sensing := set1 p.mon.sensing h r } }
/-- The fifteen thread records of head `h` (R151). -/
def Part.threadsOf (p : Part) (h : Nat) : List Thread := nth1 p.mon.threads [] h
/-- The thread record of needle `n` of head `h`. -/
def Part.thread (p : Part) (h n : Nat) : Thread := nth1 (p.threadsOf h) Thread.reset n
/-- Store the thread record of needle `n` of head `h`. -/
def Part.setThread (p : Part) (h n : Nat) (r : Thread) : Part :=
  { p with mon := { p.mon with threads := set1 p.mon.threads h (set1 (p.threadsOf h) n r) } }

/-- Apply an operation for each head of a list in order. -/
def Part.forHeads (hs : List Nat) (f : Part → Nat → Part) (p : Part) : Part := hs.foldl f p

/-! ## Kinds, notices -/

/-- Whether a set holds a kind. -/
def KindSet.has (s : KindSet) : FaultKind → Bool
  | .break_ => s.break_
  | .tension => s.tension
  | .bobbin => s.bobbin
  | .lost => s.lost
  | .jam => s.jam

/-- A set with one kind set or clear. -/
def KindSet.put (s : KindSet) (b : Bool) : FaultKind → KindSet
  | .break_ => { s with break_ := b }
  | .tension => { s with tension := b }
  | .bobbin => { s with bobbin := b }
  | .lost => { s with lost := b }
  | .jam => { s with jam := b }

/-- The kinds of the first set that are not in the second. -/
def KindSet.minus (s t : KindSet) : KindSet :=
  ⟨s.break_ && !t.break_, s.tension && !t.tension, s.bobbin && !t.bobbin, s.lost && !t.lost, s.jam && !t.jam⟩

/-- Whether a set holds any kind. -/
def KindSet.any (s : KindSet) : Bool := s.break_ || s.tension || s.bobbin || s.lost || s.jam

/-- The action a head holds for a kind (R172). -/
def Actions.of (a : Actions) : FaultKind → FaultAction
  | .break_ => a.break_
  | .tension => a.tension
  | .bobbin => a.bobbin
  | .lost => a.lost
  | .jam => a.jam

/-- Whether the notice set holds any kind (R213). -/
def Notices.any (n : Notices) : Bool :=
  n.stopped || n.fault || n.sealed || n.case || n.selectDone || n.homed || n.cleared

/-- Raising a kind adds it to the set (R213). -/
def Notices.raise (n : Notices) : Notice → Notices
  | .stopped => { n with stopped := true }
  | .fault => { n with fault := true }
  | .sealed => { n with sealed := true }
  | .case => { n with case := true }
  | .selectDone => { n with selectDone := true }
  | .homed => { n with homed := true }
  | .cleared => { n with cleared := true }

/-- Raise a notice into the notice set (R213). -/
def Part.notice (p : Part) (k : Notice) : Part := { p with port := { p.port with notices := p.port.notices.raise k } }

/-! ## Free values -/

/-- Draw the next free value: the counter's present value, and the counter moved on (log entry 4). -/
def Part.draw (p : Part) : Nat × Part := (p.free, { p with free := p.free + 1 })

/-- Bring the clock up to a moment, if it has not passed it (log entry 3). -/
def Part.atLeast (p : Part) (t : Nat) : Part := { p with now := max p.now t }

/-! ## Responses -/

/-- The number that stands on the wire for a value of `w` bytes: the value when it fits, a free value when it does not
(log entry 16). -/
def wireValue (w v : Nat) : Nat := if v < 256 ^ w then v else Config.overwide w v

/-- The same for a signed value: two's complement when it fits, a free value when it does not (log entry 16). -/
def wireSigned (w : Nat) (v : Int) : Nat :=
  if -(256 ^ w : Int) ≤ 2 * v ∧ 2 * v < (256 ^ w : Int) then (v % (256 ^ w : Int)).toNat else Config.overwideSigned w v

/-- The bytes of a payload field (R209). -/
def Item.bytes : Item → List Byte
  | .u w v => beBytes w (wireValue w v)
  | .s w v => beBytes w (wireSigned w v)

/-- The status values of R210. -/
def Status.code : Status → Nat
  | .done => 0x01
  | .taken => 0x02
  | .state => 0x10
  | .busy => 0x11
  | .noRecord => 0x12
  | .range => 0x13
  | .full => 0x14
  | .cases => 0x15
  | .notHomed => 0x16
  | .locked => 0x17
  | .malformed => 0x1F

/-- The payload bytes of a response. -/
def Response.body (r : Response) : List Byte := r.payload.flatMap Item.bytes

/-- The response frame (R207): code, status, length high byte first, payload, CRC. -/
def Response.frame (r : Response) : List Byte :=
  let body := beBytes 1 r.code ++ beBytes 1 r.status.code ++ beBytes 2 r.body.length ++ r.body
  body ++ [crc8 body]

/-- The empty frame a fetch shifts out with no held response (R207). -/
def emptyFrame : List Byte := [0#8, 0#8, 0#8, 0#8, 0#8]

/-- The frame a fetch shifts out (R207). -/
def Port.heldFrame (q : Port) : List Byte :=
  match q.held with
  | some r => r.frame
  | none => emptyFrame

/-- The bytes SDO carries in a fetch of `n` whole bytes: 0 during the first byte, then the frame from its first byte, then
zeros (R207). -/
def Port.shifted (q : Port) (n : Nat) : List Byte :=
  (0#8 :: (q.heldFrame ++ List.replicate n 0#8)).take n

/-- The response replaces the held one (R206, R207). SDO was 0x00 on every byte of the request frame (R205). -/
def Part.hold (p : Part) (code : Nat) (st : Status) (payload : List Item) : Part :=
  { p with port := { p.port with held := some ⟨code, st, payload⟩, sdo := [] } }

/-- What the owner of a request makes of it: the part, the status and the payload of the response. -/
abbrev Reply := Part × Status × List Item

/-! ## The two shapes of a meaning -/

/-- A request frame begun with READY high: its owner acts and the response replaces the held one (R206). Begun with READY low
(in reset, R214) it is discarded unseen (R205). -/
def State.request (s : State) (code : Nat) (f : Part → Reply) : Result State :=
  if s.part.port.ready then .next { s with part := (f s.part).1.hold code (f s.part).2.1 (f s.part).2.2 }
  else .next s

/-- An event of the part: no response. While the RESET line is low the part does nothing (R214, log entry 30). -/
def State.event (s : State) (f : Part → Part) : Result State :=
  if s.part.port.inReset then .next s else .next { s with part := f s.part }

/-- An event that begins with new levels of input lines; the levels are the outside's, so they change in reset too. -/
def State.lineEvent (s : State) (lines : Lines → Lines) (f : Part → Part) : Result State :=
  State.event { s with part := { s.part with lines := lines s.part.lines } } f

/-! ## Payload fields (R209) -/

/-- A flag. -/
def itemFlag (b : Bool) : Item := .u 1 b.toNat
/-- An optional field of `w` bytes: presence byte, then the value or 0. -/
def itemOpt (w : Nat) : Option Nat → List Item
  | none => [.u 1 0, .u w 0]
  | some v => [.u 1 1, .u w v]
/-- A pair of signed four-byte values. -/
def itemVec (v : Vec) : List Item := [.s 4 v.x, .s 4 v.y]
/-- A list: its count in one byte, or two where it may exceed 255 entries, then the entries. -/
def itemList (w : Nat) {α : Type} (l : List α) (f : α → List Item) : List Item := .u w l.length :: l.flatMap f

end Sys2Proof.Machine
end

