-- ==== Sys2Proof/Machine/Operands.lean ====
section
/-! DEFINITION. The operand forms of requests (R209): what a raw flag, selector, presence byte or enumerated value says, or
none when the byte lies outside its encoding (answered RANGE by the owning block). Enumerated values are numbered by their
position in the list of the owning chapter, from 0. -/

namespace Sys2Proof.Machine

/-- A flag: 0 or 1. -/
def flag? : Nat → Option Bool
  | 0 => some false
  | 1 => some true
  | _ => none

/-- An optional field: presence 0, its bytes being 0, or 1 (R209). -/
def optField? {α : Type} [DecidableEq α] [Zero α] (o : Opt α) : Option (Option α) :=
  match o.pres with
  | 0 => if o.val = 0 then some none else none
  | 1 => some (some o.val)
  | _ => none

/-- A field of an amending request that cannot be absent: selector 0, the value bytes being 0, leaves it, 1 gives it, others are
RANGE (R209). -/
def given? {α : Type} [DecidableEq α] [Zero α] (g : Given α) : Option (Option α) :=
  match g.sel with
  | 0 => if g.val = 0 then some none else none
  | 1 => some (some g.val)
  | _ => none

/-- A field of an amending request that may be given as absent: selector 2, the value bytes being 0, gives absent (R209). -/
def givenOpt? {α : Type} [DecidableEq α] [Zero α] (g : Given α) : Option (Option (Option α)) :=
  match g.sel with
  | 2 => if g.val = 0 then some (some none) else none
  | _ => (given? g).map (Option.map some)

/-- Decode an amending field through an encoding of its values. -/
def givenVia? {α β : Type} [DecidableEq α] [Zero α] (f : α → Option β) (g : Given α) : Option (Option β) :=
  match given? g with
  | none => none
  | some none => some none
  | some (some v) => (f v).map some

/-- Stitch kinds (R216): 0 NORMAL, 1 JUMP, 2 TRIM. -/
def stitchKind? : Nat → Option StitchKind
  | 0 => some .normal
  | 1 => some .jump
  | 2 => some .trim
  | _ => none

/-- Orientations (R25). -/
def orientation? : Nat → Option Orientation
  | 0 => some .r0
  | 1 => some .r90
  | 2 => some .r180
  | 3 => some .r270
  | _ => none

/-- Mirror (R25): none, X. -/
def mirror? : Nat → Option Bool := flag?

/-- JOG modes (R37): true for RELATIVE. -/
def jogMode? : Nat → Option Bool := flag?

/-- The maps of R110: ACTIVE is none. -/
def mapName? : Nat → Option (Option Staged)
  | 0 => some none
  | 1 => some (some .a)
  | 2 => some (some .b)
  | _ => none

/-- A staged map, numbered as in R110. -/
def staged? : Nat → Option Staged
  | 1 => some .a
  | 2 => some .b
  | _ => none

/-- Map modes (R110). -/
def mapMode? : Nat → Option MapMode
  | 0 => some .head
  | 1 => some .bank
  | _ => none

/-- The thread states a request may give (R152): READY, BROKEN, BLOCKED, numbered as in R151. -/
def threadState? : Nat → Option ThreadState
  | 1 => some .ready
  | 2 => some .broken
  | 3 => some .blocked
  | _ => none

/-- Sample uses (R155). -/
def sampleUse? : Nat → Option SampleUse
  | 0 => some .check
  | 1 => some .settle
  | _ => none

/-- ALL (0) or one head (R155). -/
def sampleHeads? (v : Nat) : Option (Option Nat) :=
  if v = 0 then some none else if v ≤ Config.headCount then some (some v) else none

/-- auto_strobe (R122). -/
def autoStrobe? : Nat → Option AutoStrobe
  | 0 => some .off
  | 1 => some .a
  | 2 => some .b
  | 3 => some .line
  | _ => none

/-- fault_line_mode (R178, R183): 0 ALL with a head byte of 0, 1 FOLLOW with a head 1 to 20 (the layout is log entry 38). -/
def faultLine? (v : Nat × Nat) : Option (Option Nat) :=
  if v.1 = 0 then (if v.2 = 0 then some none else none)
  else if v.1 = 1 ∧ 1 ≤ v.2 ∧ v.2 ≤ Config.headCount then some (some v.2)
  else none

/-- Fault actions (R172, R173): STOP, PARK, NOTE. -/
def action? : Nat → Option FaultAction
  | 0 => some .stop
  | 1 => some .park
  | 2 => some .note
  | _ => none

/-- The actions allowed for every kind but TENSION (R172): STOP, PARK. -/
def stopOrPark? (v : Nat) : Option FaultAction :=
  match action? v with
  | some .note => none
  | a => a

/-- A set of kinds: bits 0 to 4 in the order of R169; other bits are outside the encoding. The ALL of AMEND CLEAR_FAULTS is the set of all
five (DESIGN CHOICE, log entry 65). -/
def kinds? (v : Nat) : Option KindSet :=
  if v < 32 then some ⟨v.testBit 0, v.testBit 1, v.testBit 2, v.testBit 3, v.testBit 4⟩ else none

/-- A head 1 to 20. -/
def isHead (h : Nat) : Bool := decide (1 ≤ h) && decide (h ≤ Config.headCount)

/-- A needle 1 to 15. -/
def isNeedle (n : Nat) : Bool := decide (1 ≤ n) && decide (n ≤ Config.needleCount)

/-- A colour slot 1 to 24. -/
def isSlot (n : Nat) : Bool := decide (1 ≤ n) && decide (n ≤ Config.slotCount)

/-- Whether a signed value lies in a closed range. -/
def within (lo hi v : Int) : Bool := decide (lo ≤ v) && decide (v ≤ hi)

end Sys2Proof.Machine
end

