-- ==== Sys2Proof/Machine/Library.lean ====
section
/-! DEFINITION. The design library (chapter 1): the page pool, appending, runs, the seal's walk, serving ordinals, and the
positions of ordinals in design units (R30). -/

namespace Sys2Proof.Machine

/-- Design `d` (0 to 15). -/
def Library.design (l : Library) (d : Nat) : Design := l.designs.getD d Design.reset

/-- Store design `d`. -/
def Library.setDesign (l : Library) (d : Nat) (x : Design) : Library := { l with designs := l.designs.set d x }

/-- A design number 0 to 15. -/
def isDesign (d : Nat) : Bool := decide (d < Config.designCount)

/-- A run index 0 to 511. -/
def isRun (r : Nat) : Bool := decide (r < 512)

/-! ## The stitch store (R2, R3, R22) -/

/-- What an unwritten record reads as: NORMAL with zero displacement (R22). -/
def Stitch.zero : Stitch := ⟨.normal, Vec.zero⟩

/-- Read a record of the page pool. -/
def readStitch (t : Table Stitch) (a : Nat) : Stitch := (lookupKey a t).getD Stitch.zero

/-- Write a record of the page pool; a record equal to what an unlisted one reads as is taken off the list. -/
def writeStitch (t : Table Stitch) (a : Nat) (v : Stitch) : Table Stitch :=
  if v = Stitch.zero then eraseKey a t else insertKey a v t

/-- The canonical form of the stitch store: keys rising, no entry equal to what an unlisted key reads as. -/
def stitchesWf (t : Table Stitch) : Bool := sortedTable t && t.all fun e => e.2 != Stitch.zero

/-- Where stitch index `i` of a design is stored: page at position i div 512 of its page list, record i mod 512 (R2). -/
def Design.address (x : Design) (i : Nat) : Nat :=
  x.pages.getD (i / Config.pageSize) 0 * Config.pageSize + i % Config.pageSize

/-- Stitch record `i` of a design. -/
def Library.stitch (l : Library) (x : Design) (i : Nat) : Stitch := readStitch l.stitches (x.address i)

/-! ## Appending (R6, R7) -/

/-- A raw record within its format: kind NORMAL, JUMP or TRIM, displacements within ±`bound` (R3, R6, R7). -/
def legalStitch (bound : Int) (r : RawStitch) : Option Stitch :=
  match stitchKind? r.kind with
  | some k => if within (-bound) bound r.dx && within (-bound) bound r.dy then some ⟨k, ⟨r.dx, r.dy⟩⟩ else none
  | none => none

/-- Whether the next record of a design needs a new page (R6). -/
def Design.needsPage (x : Design) : Bool := x.count % Config.pageSize == 0

/-- Take a page from the front of the free list when the next record needs one (R2, R6). -/
def Library.takePage (l : Library) (d : Nat) : Library :=
  if (l.design d).needsPage then
    match l.freePages with
    | [] => l
    | pg :: rest =>
      ({ l with freePages := rest }).setDesign d { l.design d with pages := (l.design d).pages ++ [pg] }
  else l

/-- Store a record at the stitch index equal to the stitch count, and count it (R6). -/
def Library.appendStitch (l : Library) (d : Nat) (v : Stitch) : Library :=
  let x := l.design d
  ({ l with stitches := writeStitch l.stitches (x.address x.count) v }).setDesign d { x with count := x.count + 1 }

/-- Store the records one by one, stopping at the first that cannot be stored: the library, the status, the number stored
(R6, R7). A record that needs a page with none free and is out of range too is answered FULL: the order of R7's two cases is a DESIGN
CHOICE (log entry 14). -/
def Library.append (l : Library) (d : Nat) (bound : Int) : List RawStitch → Nat → Library × Status × Nat
  | [], stored => (l, .done, stored)
  | r :: rest, stored =>
    if (l.design d).needsPage && l.freePages.isEmpty then (l, .full, stored)
    else
      match legalStitch bound r with
      | none => (l, .range, stored)
      | some v => ((l.takePage d).appendStitch d v).append d bound rest (stored + 1)

/-- The format's range of counts and its bound of displacements: compact 1 to 96, ±63; wide 1 to 64, ±1,023 (R6). -/
def stitchFormat? : Nat → Option (Nat × Int)
  | 0 => some (96, 63)
  | 1 => some (64, 1023)
  | _ => none

/-! ## Retirement (R20) -/

/-- A design returned to EMPTY: its pages join the end of the free list in page list order, its descriptors are freed, a
seal of it is abandoned (R2, R4, R19, R20). -/
def Library.retire (l : Library) (d : Nat) : Library :=
  let x := l.design d
  ({ l with
      freePages := l.freePages ++ x.pages
      freeRuns := l.freeRuns + x.runs.length
      sealer := if l.sealer = some d then none else l.sealer }).setDesign d Design.reset

/-! ## Sums of displacements -/

/-- The displacements of `n` stitch records from record `first` on. -/
def Library.displacements (l : Library) (x : Design) (first n : Nat) : List Vec :=
  (List.range n).map fun j => (l.stitch x (first + j)).d

/-- The sum of a list of displacements. -/
def sumVecs (vs : List Vec) : Vec := vs.foldl Vec.add Vec.zero

/-- All the partial sums of a list, from the empty one to the whole (R16: the prefix sums of j = 0 to L). -/
def partialSums (acc : Vec) : List Vec → List Vec
  | [] => [acc]
  | v :: rest => acc :: partialSums (acc.add v) rest

/-! ## The seal (R14 to R17) -/

/-- The least of a list of integers, and `d` of none. -/
def leastOf (d : Int) (l : List Int) : Int := l.foldl min d
/-- The greatest of a list of integers, and `d` of none. -/
def greatestOf (d : Int) (l : List Int) : Int := l.foldl max d

/-- The union of two rectangles. -/
def Box.union (a b : Box) : Box :=
  ⟨min a.minX b.minX, max a.maxX b.maxX, min a.minY b.minY, max a.maxY b.maxY⟩

/-- The rectangle of one point. -/
def Box.point (v : Vec) : Box := ⟨v.x, v.x, v.y, v.y⟩

/-- Whether a rectangle lies within another. -/
def Box.inside (a b : Box) : Bool :=
  decide (b.minX ≤ a.minX) && decide (a.maxX ≤ b.maxX) && decide (b.minY ≤ a.minY) && decide (a.maxY ≤ b.maxY)

/-- Whether a point lies within a rectangle. -/
def Box.contains (b : Box) (v : Vec) : Bool := (Box.point v).inside b

/-- The ordinal count of a run: L × R, plus 1 with an end shift (section 1.3). -/
def Run.ordinals (r : Run) : Nat := r.length * r.passes + (if r.endShift.isSome then 1 else 0)

/-- The end position of a run that starts at `s` with pass shift `h` (R15). -/
def Run.endPosition (r : Run) (s h : Vec) : Vec := (s.add (h.times r.passes)).add (r.endShift.getD Vec.zero)

/-- The extent of a run that starts at `s` (R16). -/
def runExtent (r : Run) (s : Vec) (ds : List Vec) : Box :=
  let sums := partialSums Vec.zero ds
  let h := sumVecs ds
  let k : Int := (r.passes : Int) - 1
  let body : Box :=
    { minX := s.x + leastOf 0 (sums.map Vec.x) + min 0 (k * h.x)
      maxX := s.x + greatestOf 0 (sums.map Vec.x) + max 0 (k * h.x)
      minY := s.y + leastOf 0 (sums.map Vec.y) + min 0 (k * h.y)
      maxY := s.y + greatestOf 0 (sums.map Vec.y) + max 0 (k * h.y) }
  if r.endShift.isSome then body.union (Box.point (r.endPosition s h)) else body

/-- What the walk has gathered so far: the runs visited, the derived fields, the end position of the last run. -/
structure Walk where
  visited : List Nat
  derived : Derived
  position : Vec
  deriving DecidableEq, Repr

/-- The walk before its first run: no ordinals, the extent of the point (0, 0) (R15). -/
def Walk.start : Walk := ⟨[], ⟨0, [], [], Box.point Vec.zero⟩, Vec.zero⟩

/-- The block table after a run: the last entry is prolonged while the slot is the same, a new one is opened otherwise
(R12, R15). -/
def extendBlocks (blocks : List Block) (slot entry base last : Nat) : List Block :=
  match blocks.getLast? with
  | some b =>
    if b.slot = slot then blocks.dropLast ++ [{ b with last := last }]
    else blocks ++ [⟨blocks.length, slot, entry, base, last⟩]
  | none => [⟨0, slot, entry, base, last⟩]

/-- The walk after passing run `r` at index `i` (R15). -/
def Walk.pass (w : Walk) (i : Nat) (r : Run) (ds : List Vec) : Walk :=
  let h := sumVecs ds
  let base := w.derived.total
  let blocks := extendBlocks w.derived.blocks r.slot w.derived.chain.length base (base + r.ordinals - 1)
  { visited := i :: w.visited
    position := r.endPosition w.position h
    derived :=
      { total := base + r.ordinals
        chain := w.derived.chain ++ [⟨i, base, w.position, h, r.ordinals, blocks.length - 1⟩]
        blocks := blocks
        extent := w.derived.extent.union (runExtent r w.position ds) } }

/-- Checks 2 to 6 of R14 at a run, before its successor is looked at. -/
def runCheck (l : Library) (x : Design) (w : Walk) (r : Run) : Option SealError :=
  if x.count < r.first + r.length then some .badRange
  else if !isSlot r.slot then some .badSlot
  else if (List.range r.length).any (fun j =>
      let st := l.stitch x (r.first + j)
      decide (st.kind = .trim) && decide (st.d ≠ Vec.zero)) then some .trimShift
  else if Config.maxT < w.derived.total + r.ordinals then some .tooLong
  else if !(runExtent r w.position (l.displacements x r.first r.length)).inside Box.whole then some .extent
  else none

/-- The sealer's walk from run `i` on (R14, R15): the derived fields, or the error kind and the run reported. A chain visits
no run twice, so 512 steps suffice. -/
def sealWalk (l : Library) (x : Design) : Nat → Nat → Walk → Except (SealError × Nat) Derived
  | 0, i, _ => .error (.loop, i)
  | fuel + 1, i, w =>
    match lookupKey i x.runs with
    | none => .error (.noRun, i)
    | some r =>
      match runCheck l x w r with
      | some e => .error (e, i)
      | none =>
        let w' := w.pass i r (l.displacements x r.first r.length)
        match r.next with
        | none => .ok w'.derived
        | some k =>
          if (lookupKey k x.runs).isNone then .error (.noRun, i)
          else if k ∈ w'.visited then .error (.loop, i)
          else sealWalk l x fuel k w'

/-- The whole seal of a design: check 1, then the walk (R14). -/
def sealDesign (l : Library) (x : Design) : Except (SealError × Nat) Derived :=
  if (lookupKey x.startRun x.runs).isNone then .error (.noStart, x.startRun)
  else sealWalk l x 512 x.startRun Walk.start

/-- The completion of a seal of design `d` (R17). -/
def Library.completeSeal (l : Library) (d : Nat) : Library :=
  let x := l.design d
  match sealDesign l x with
  | .ok dv => ({ l with sealer := none }).setDesign d { x with state := .sealed, result := .ok, derived := some dv }
  | .error (e, r) => ({ l with sealer := none }).setDesign d { x with state := .loading, result := .error e r }

/-- RESTART at the library: a seal in flight is abandoned (R21). -/
def Library.abandonSeal (l : Library) : Library :=
  match l.sealer with
  | none => l
  | some d => ({ l with sealer := none }).setDesign d { l.design d with state := .loading, result := .abandoned }

/-- Take design `d` to a state, everything else kept (R1). -/
def Library.setState (l : Library) (d : Nat) (st : DesignState) : Library :=
  l.setDesign d { l.design d with state := st }

/-! ## Serving ordinals (R11, R12, R23) -/

/-- The served ordinal record (R23). `runEnd` carries HALT_AFTER and TRIM_AFTER. -/
structure Served where
  ordinal : Nat
  run : Nat
  pass : Nat
  stitch : Option Nat
  kind : StitchKind
  d : Vec
  slot : Nat
  block : Block
  runEnd : Option (Bool × Bool)
  blockEnd : Bool
  designEnd : Bool
  deriving DecidableEq, Repr

/-- The entry of the chain order list an ordinal lies in: the last whose base ordinal is at most it (R23). -/
def Derived.entryOf (dv : Derived) (o : Nat) : Option ChainEntry :=
  if o < dv.total then (dv.chain.filter fun e => decide (e.base ≤ o)).getLast? else none

/-- The colour block of a number. -/
def Derived.block (dv : Derived) (k : Nat) : Block := dv.blocks.getD k ⟨k, 0, 0, 0, 0⟩

/-- The record served for ordinal `o` of a design; none outside 0 to T − 1 or without derived fields (R23). -/
def Library.serve (l : Library) (x : Design) (o : Nat) : Option Served :=
  match x.derived with
  | none => none
  | some dv =>
    match dv.entryOf o with
    | none => none
    | some e =>
      match lookupKey e.run x.runs with
      | none => none
      | some r =>
        let k := o - e.base
        let b := dv.block e.block
        let inPass := decide (k < r.length * r.passes)
        let i := r.first + k % r.length
        some
          { ordinal := o
            run := e.run
            pass := if inPass then k / r.length else r.passes
            stitch := if inPass then some i else none
            kind := if inPass then (l.stitch x i).kind else .jump
            d := if inPass then (l.stitch x i).d else r.endShift.getD Vec.zero
            slot := r.slot
            block := b
            runEnd := if o + 1 = e.base + e.count then some (r.haltAfter, r.trimAfter) else none
            blockEnd := decide (o = b.last)
            designEnd := decide (o + 1 = dv.total) }

/-- The colour block that contains an ordinal. -/
def Design.blockOf (x : Design) (o : Nat) : Option Block :=
  match x.derived with
  | none => none
  | some dv => (dv.entryOf o).map fun e => dv.block e.block

/-- T of a design, 0 without derived fields. -/
def Design.total (x : Design) : Nat := (x.derived.map Derived.total).getD 0

/-! ## Positions in design units (R30) -/

/-- position(o) of an ordinal: from the run's start position, pass shift and partial sums, without walking the design. -/
def Library.position (l : Library) (x : Design) (o : Nat) : Vec :=
  match x.derived with
  | none => Vec.zero
  | some dv =>
    match dv.entryOf o with
    | none => Vec.zero
    | some e =>
      match lookupKey e.run x.runs with
      | none => Vec.zero
      | some r =>
        let k := o - e.base
        if k < r.length * r.passes then
          (e.start.add (e.shift.times (k / r.length))).add
            (sumVecs (l.displacements x r.first (k % r.length + 1)))
        else r.endPosition e.start e.shift

/-- position(c − 1), the position at which the frame stands when the current ordinal is c; the origin for c = 0 (R30). -/
def Library.standing (l : Library) (x : Design) (c : Nat) : Vec :=
  if c = 0 then Vec.zero else l.position x (c - 1)

end Sys2Proof.Machine
end

