-- ==== Sys2Proof/Machine/Flags.lean ====
section
/-! DEFINITION. What the part shows but does not store: change-due and the current colour block (R84), live status (R171),
the law of needle DOWN (R76), and the output lines READY, ATTN, FAULT, DRV_EN and DRV_DEM. -/

namespace Sys2Proof.Machine

/-- The active design's record, if a design is active. -/
def Part.activeDesign (p : Part) : Option Design := p.ctl.design.map p.lib.design

/-- change-due: a design is active, c < T and the block containing ordinal c has a slot other than the current slot (R84). -/
def Part.changeDue (p : Part) : Bool :=
  match p.activeDesign, p.ctl.c, p.ctl.slot with
  | some x, some c, some s =>
    decide (c < x.total) &&
      (match x.blockOf c with
       | some b => decide (b.slot ≠ s)
       | none => false)
  | _, _, _ => false

/-- The current colour block: that of ordinal c − 1 when c > 0 and either c = T or change-due is set, else that of c (R84). -/
def Part.currentBlock (p : Part) : Option Block :=
  match p.activeDesign, p.ctl.c with
  | some x, some c =>
    if 0 < c ∧ (c = x.total ∨ p.changeDue) then x.blockOf (c - 1) else x.blockOf c
  | _, _ => none

/-- The controller sews, in the sense of R186. -/
def Part.sews (p : Part) : Bool :=
  match p.ctl.state with
  | .starting | .running | .stopping => true
  | _ => false

/-- The repair run in progress, while the controller is REPAIRING. -/
def Part.repairing (p : Part) : Option Repair := if p.ctl.state = .repairing then p.ctl.repair else none

/-- The repair run while it is in its SEWING phase. -/
def Part.repairSewing (p : Part) : Option Repair :=
  match p.repairing with
  | some r => if r.phase = .sewing then some r else none
  | none => none

/-- The shaft is slowing to a controlled stop: STOPPING, or the controlled stop of a repair run (R59, R202). -/
def Part.slowing (p : Part) : Bool :=
  match p.repairSewing with
  | some r => p.ctl.pending.isSome && !r.stopReached
  | none => decide (p.ctl.state = .stopping)

/-- Live status of a head (R171). -/
def Part.live (p : Part) (h : Nat) : KindSet :=
  { break_ := (p.threadsOf h).any fun t => decide (t.state = .broken)
    tension := (p.sensing h).tensionLive
    bobbin := decide ((p.head h).bobbin = some 0)
    lost := decide ((p.link h).missing = p.par.lostCount)
    jam := (p.selector h).jamLive }

/-- The latched sewing needle of a head, when its thread record is READY (R76). -/
def Part.readyNeedle (p : Part) (h : Nat) : Option Nat :=
  match (p.selector h).latched with
  | some n => if (p.thread h n).state = .ready then some n else none
  | none => none

/-- The law of needle DOWN (R76): the head is ACTIVE, its selector is AT_NEEDLE at its latched sewing needle, that needle's
thread record is READY and, in a repair run, the head is the repaired head. -/
def Part.mayGoDown (p : Part) (h : Nat) : Bool :=
  decide ((p.head h).state = .active) &&
  (match p.readyNeedle h with
   | some n => decide ((p.selector h).state = .atNeedle n)
   | none => false) &&
  (match p.repairing with
   | some r => decide (r.head = h)
   | none => true)

/-- Whether a trim entry fires the trimmers of a head (R76). -/
def Part.mayTrim (p : Part) (h : Nat) : Bool :=
  decide ((p.head h).state = .active) && (p.selector h).latched.isSome &&
  (match p.repairing with
   | some r => decide (r.head = h)
   | none => true)

/-! ## Output lines -/

/-- FAULT is asserted (low), by fault_line_mode (R178); it is high while RESET is low (R214). -/
def Part.faultLow (p : Part) : Bool :=
  !p.port.inReset &&
  (match p.par.follow with
   | none => p.fittedHeads.any fun h => ((p.head h).latches.minus (p.head h).mask).any
   | some h => decide (h ≤ p.par.headsFitted) && ((p.live h).minus (p.head h).mask).any)

/-- ATTN is asserted (low) while the notice set holds any kind (R213); high while RESET is low (R214). -/
def Part.attnLow (p : Part) : Bool := !p.port.inReset && p.port.notices.any

/-- DRV_EN is high in every drive state but DISABLED (R70), and low in reset (R214). -/
def Part.drvEn (p : Part) : Bool := !p.port.inReset && decide (p.shaft.drive ≠ .disabled)

/-- DRV_DEM presents the demand in TURNING and 0 in the other states (R70). -/
def Part.drvDem (p : Part) : Nat := if p.shaft.drive = .turning then p.shaft.demand else 0

end Sys2Proof.Machine
end

