-- ==== Sys2Proof/Machine/Positioner.lean ====
section
/-! DEFINITION. The frame positioner (chapter 2): the placement transform, the exact step arithmetic, traverse legs, the
home search, what a lock and a restart leave of a move. -/

namespace Sys2Proof.Machine

/-! ## The placement transform and the step arithmetic (R26, R29, R30) -/

/-- Mirror, then rotation (R26). -/
def Placement.transform (pl : Placement) (v : Vec) : Vec :=
  let x := if pl.mirrorX then -v.x else v.x
  match pl.orientation with
  | .r0 => ⟨x, v.y⟩
  | .r90 => ⟨-v.y, x⟩
  | .r180 => ⟨-x, -v.y⟩
  | .r270 => ⟨v.y, -x⟩

/-- The ideal position of a design position, or what a displacement adds to it, in 1/262,144 step: transformed, times scale
and K of the frame axis (R30, R31). -/
def Placement.ideal (pl : Placement) (q : Params) (v : Vec) : Vec :=
  let t := pl.transform v
  ⟨t.x * pl.scaleX * q.kX, t.y * pl.scaleY * q.kY⟩

/-- One half step, and one step, in 1/262,144 step (R29). -/
def halfStep : Int := 131072
def wholeStep : Int := 262144

/-- The committed position of an ideal position on one axis: origin + floor((P + 131,072) / 262,144) (R29). -/
def committedAxis (origin p : Int) : Int := origin + (p + halfStep) / wholeStep

/-- The committed position on both axes (R29). -/
def Placement.committed (pl : Placement) (p : Vec) : Vec :=
  ⟨committedAxis pl.origin.x p.x, committedAxis pl.origin.y p.y⟩

/-- The extent test of R33: the four corners, transformed, scaled and rounded, lie within the hoop field. -/
def Placement.fits (pl : Placement) (q : Params) (e hoop : Box) : Bool :=
  [(⟨e.minX, e.minY⟩ : Vec), ⟨e.minX, e.maxY⟩, ⟨e.maxX, e.minY⟩, ⟨e.maxX, e.maxY⟩].all fun v =>
    hoop.contains (pl.committed (pl.ideal q v))

/-! ## Positions of the active design -/

/-- The ideal position (R30) of the design position at which the frame stands when the current ordinal is `c`. -/
def Part.idealStanding (p : Part) (c : Nat) : Vec :=
  match p.activeDesign, p.pos.placement with
  | some x, some pl => pl.ideal p.par (p.lib.standing x c)
  | _, _ => Vec.zero

/-- The committed position of an ideal position of the active design; the frame position itself without a placement. -/
def Part.committed (p : Part) (v : Vec) : Vec :=
  match p.pos.placement with
  | some pl => pl.committed v
  | none => p.pos.n

/-- What a design displacement adds to the ideal position (R31). -/
def Part.idealStep (p : Part) (d : Vec) : Vec :=
  match p.pos.placement with
  | some pl => pl.ideal p.par d
  | none => Vec.zero

/-- P, or the origin while it is absent. -/
def Positioner.pOrZero (q : Positioner) : Vec := q.p.getD Vec.zero

/-! ## The pulses of a move (R29, R42): N lies between its start and where the pulses ordered so far end -/

/-- A position that has gone `k` pulses from `n` towards `goal`, never past it. -/
def approach (n goal : Int) (k : Nat) : Int :=
  if n ≤ goal then n + ((k % ((goal - n).toNat + 1) : Nat) : Int) else n - ((k % ((n - goal).toNat + 1) : Nat) : Int)

/-- The position of an axis in a home search after `k` further pulses: up while it leaves the sensor, down while it seeks
it, fewer than 1,048,576 in all (R36). -/
def searchAfter (s : Search) (n : Int) (k : Nat) : Int :=
  match s with
  | .leaving => n + (k : Int)
  | .seeking from_ =>
    let left := Config.searchPulses - (from_ - n).toNat
    if left = 0 then n else n - ((k % left : Nat) : Int)
  | .found => n

/-- Look at N while a move runs: each axis has emitted a free number of further pulses (log entry 5). -/
def Part.observe (p : Part) : Part :=
  match p.pos.move with
  | none => p
  | some m =>
    if m.interrupted then p
    else
      let (a, p1) := p.draw
      let (b, p2) := p1.draw
      let n : Vec :=
        match m.kind with
        | .homeSearch =>
          ⟨searchAfter m.searchX p.pos.n.x (Config.pulses a), searchAfter m.searchY p.pos.n.y (Config.pulses b)⟩
        | _ => ⟨approach p.pos.n.x m.goal.x (Config.pulses a), approach p.pos.n.y m.goal.y (Config.pulses b)⟩
      { p2 with pos := { p2.pos with n := n } }

/-! ## Moves -/

/-- The direction outputs at the start of a move: high for a positive count, low for a negative one, kept for none (R34). -/
def Positioner.turn (q : Positioner) (by_ : Vec) : Positioner :=
  { q with
    dirX := if by_.x = 0 then q.dirX else decide (0 < by_.x)
    dirY := if by_.y = 0 then q.dirY else decide (0 < by_.y) }

/-- A traverse leg from the present N to a target, at F_trav as it stands (R35). -/
def Part.startLeg (p : Part) (target : Vec) : Part :=
  let m : Move :=
    { kind := .leg, start := p.pos.n, target := target, goal := target, interrupted := false, stopping := false,
      rate := p.par.fTrav, searchX := .found, searchY := .found }
  { p with pos := { p.pos.turn (target.sub p.pos.n) with move := some m } }

/-- The leg, or the completed move, ends at a position (R35). -/
def Positioner.arrive (q : Positioner) (v : Vec) : Positioner := { q with n := v, move := none, busy := false }

/-- A net traverse to position(c − 1) of the active design: P is taken from R30 for it (R32). -/
def Part.startNetLeg (p : Part) (c : Nat) : Part :=
  let v := p.idealStanding c
  ({ p with pos := { p.pos with p := some v } } : Part).startLeg (p.committed v)

/-- One axis of a JOG as it is stopped (R38): an axis that has not begun its deceleration ramp emits as many further pulses
as it has emitted in its acceleration ramp, or those remaining if fewer; an axis already decelerating ends as planned. -/
def jogStopAxis (start target n : Int) : Int :=
  let m := (target - start).natAbs
  let ramp := min (m / 4) 1024
  let emitted := (n - start).natAbs
  if emitted + ramp < m then
    let further : Nat := min (min emitted ramp) (m - emitted)
    if start ≤ target then n + further else n - further
  else target

/-- A JOG is stopped (R38); a second stop changes nothing. Its target is from then on the place where it stops, which LOOKUP FRAME
shows (R42; DESIGN CHOICE, log entry 51). -/
def Part.stopJog (p0 : Part) : Part :=
  let p := p0.observe
  match p.pos.move with
  | none => p
  | some m =>
    if m.stopping || m.interrupted || m.kind != .leg then p
    else
      let v : Vec := ⟨jogStopAxis m.start.x m.target.x p.pos.n.x, jogStopAxis m.start.y m.target.y p.pos.n.y⟩
      { p with pos := { p.pos with move := some { m with target := v, goal := v, stopping := true } } }

/-! ## Homing (R36) -/

/-- Whether the home sensor of an axis is active: the line is active low. -/
def Lines.homeActive (l : Lines) : Axis → Bool
  | .x => !l.xHome
  | .y => !l.yHome

/-- How an axis begins its search from position `n` (R36). -/
def searchStart (active : Bool) (n : Int) : Search := if active then .leaving else .seeking n

/-- The home search of both axes begins: homed is cleared and the home result becomes NONE (R36). -/
def Part.startSearch (p : Part) : Part :=
  let ax := p.lines.homeActive .x
  let ay := p.lines.homeActive .y
  let m : Move :=
    { kind := .homeSearch, start := p.pos.n, target := Vec.zero, goal := Vec.zero, interrupted := false, stopping := false,
      rate := p.par.fTrav, searchX := searchStart ax p.pos.n.x, searchY := searchStart ay p.pos.n.y }
  { p with pos := { p.pos with homed := false, homeResult := .none, move := some m, dirX := ax, dirY := ay } }

/-- The search of one axis after an edge of its sensor, at position `n`: the new search state and position (R36, steps 2
and 3). -/
def searchEdge (s : Search) (active : Bool) (n : Int) : Search × Int :=
  match s, active with
  | .leaving, false => (.seeking n, n)
  | .seeking _, true => (.found, 0)
  | _, _ => (s, n)

/-- The search that runs now, if one does. -/
def Positioner.searching (q : Positioner) : Option Move :=
  match q.move with
  | some m => if m.kind = .homeSearch && !m.interrupted then some m else none
  | none => none

/-- The edge of the sensor of one axis acts on the search (R36); an axis that reverses turns its direction output low. -/
def Part.homeEdge (p0 : Part) (axis : Axis) (active : Bool) : Part :=
  match p0.pos.searching with
  | none => p0
  | some _ =>
    let p := p0.observe
    match p.pos.move, axis with
    | some m, .x =>
      let r := searchEdge m.searchX active p.pos.n.x
      { p with
        pos := { p.pos with
          n := { p.pos.n with x := r.2 }
          dirX := if r.1 = m.searchX then p.pos.dirX else false
          move := some { m with searchX := r.1 } } }
    | some m, .y =>
      let r := searchEdge m.searchY active p.pos.n.y
      { p with
        pos := { p.pos with
          n := { p.pos.n with y := r.2 }
          dirY := if r.1 = m.searchY then p.pos.dirY else false
          move := some { m with searchY := r.1 } } }
    | none, _ => p

/-- Both axes have found their sensors. -/
def Positioner.bothFound (q : Positioner) : Bool :=
  match q.searching with
  | some m => decide (m.searchX = .found) && decide (m.searchY = .found)
  | none => false

/-- The search ends with result OK and homed set (R36). -/
def Positioner.homeFound (q : Positioner) : Positioner := { q with homed := true, homeResult := .ok, move := none }

/-- The search of an axis fails after 1,048,576 pulses: both axes stop at once, homed stays clear, N keeps its counted
values (R36). -/
def Part.homeMissed (p0 : Part) (axis : Axis) : Part :=
  let p := p0.observe
  let n : Vec :=
    match p.pos.move, axis with
    | some m, .x => match m.searchX with
      | .seeking s => { p.pos.n with x := s - Config.searchPulses }
      | _ => p.pos.n
    | some m, .y => match m.searchY with
      | .seeking s => { p.pos.n with y := s - Config.searchPulses }
      | _ => p.pos.n
    | none, _ => p.pos.n
  { p with pos := { p.pos with n := n, homed := false, homeResult := .notFound, move := none } }

/-- Whether an axis is in its negative run, the one that can fail (R36). -/
def Positioner.seekingOn (q : Positioner) (axis : Axis) : Bool :=
  match q.searching, axis with
  | some m, .x => match m.searchX with
    | .seeking _ => true
    | _ => false
  | some m, .y => match m.searchY with
    | .seeking _ => true
    | _ => false
  | none, _ => false

/-! ## Sub-moves (R34) -/

/-- A sub-move is handed to the step generators: the move of an ordinal begins with its first sub-move, and a generator
still busy adds the new count after the old one (R29, R34). `target` is where the ordinal's move ends. -/
def Part.issueSubMove (p : Part) (steps target : Vec) (sewing : Bool) : Part :=
  if !sewing then p
  else
    let m : Move :=
      match p.pos.move with
      | some m => m
      | none =>
        { kind := .sewing, start := p.pos.n, target := target, goal := p.pos.n, interrupted := false, stopping := false,
          rate := p.plan.demand, searchX := .found, searchY := .found }
    let m' : Move := { m with goal := m.goal.add steps, rate := p.plan.demand }
    { p with
      pos := { p.pos.turn steps with
        move := some m', busy := p.pos.busy || decide (steps ≠ Vec.zero) } }

/-- Both generators have emitted their pulses: N is where the sub-moves end (R34). -/
def Positioner.subMoveDone (q : Positioner) : Positioner :=
  match q.move with
  | some m => { q with n := m.goal, busy := false }
  | none => { q with busy := false }

/-- An ordinal is committed: P advances by its displacement and its move ends, with N at the committed position of the new
P (R31). -/
def Part.commitMove (p : Part) (d : Vec) : Part :=
  let v := p.pos.pOrZero.add (p.idealStep d)
  { p with pos := { p.pos with p := some v, n := p.committed v, move := none, busy := false } }

/-! ## Lock, clear, restart (R39 to R41) -/

/-- LOCK: both step outputs stop at once, N keeps the pulses emitted, the move is kept as interrupted; for a sewing move the
target becomes the committed position of P, the position before the uncommitted ordinal (R39), in a repair run too (DESIGN CHOICE, log
entry 55). -/
def Part.lockFrame (p0 : Part) : Part :=
  let p := p0.observe
  match p.pos.move with
  | none => { p with pos := { p.pos with busy := false } }
  | some m =>
    let t := if m.kind = .sewing then p.committed p.pos.pOrZero else m.target
    { p with pos := { p.pos with busy := false, move := some { m with interrupted := true, target := t, goal := t } } }

/-- CLEAR: the interrupted move is completed as one leg from the present N, or the search is restarted (R40). -/
def Part.resumeMove (p : Part) : Part :=
  match p.pos.move with
  | none => p
  | some m => if m.kind = .homeSearch then p.startSearch else p.startLeg m.target

/-- RESTART: outputs stop, the move's record is discarded and homed cleared if a move was in progress or held; placement, P
and the planning accumulator go (R41). -/
def Part.restartFrame (p0 : Part) : Part :=
  let p := p0.observe
  let q := { p.pos with placement := none, p := none, plan := none, busy := false, move := none }
  { p with pos := if p.pos.move.isSome then { q with homed := false, homeResult := .none } else q }

end Sys2Proof.Machine
end

