-- ==== Sys2Proof/Machine/Shaft.lean ====
section
/-! DEFINITION. The shaft monitor (chapter 4): decoding of the encoder pair, index passage, the two watches, measured speed,
landmarks, and the shaft drive. -/

namespace Sys2Proof.Machine

/-! ## The shaft drive (R70, R71) -/

/-- The planner hands a demand to the monitor: presented at once in TURNING, kept otherwise (R70). -/
def Part.handDemand (p : Part) (d : Nat) : Part := { p with shaft := { p.shaft with demand := d } }

/-- Raising DRV_EN sets the index count and the reverse run to 0 (R67). -/
def Shaft.raise (q : Shaft) : Shaft := { q with indexCount := 0, reverseRun := 0 }

/-- The drive goes to DISABLED from any state; a positioning in progress is abandoned (R70). While DRV_EN is low both watch
counts stay at 0 (R67). -/
def Shaft.disable (q : Shaft) : Shaft :=
  { q with drive := .disabled, demand := 0, runWaiting := false, posSince := none, indexCount := 0, reverseRun := 0 }

/-- Disable the drive (R70, R73). -/
def Part.disableDrive (p : Part) : Part := { p with shaft := p.shaft.disable }

/-- The run order of the run controller (R70): the part, and whether a drive fault is reported because DRV_FLT is low. -/
def Part.runOrder (p : Part) : Part × Bool :=
  match p.shaft.drive with
  | .disabled =>
    if p.lines.drvFlt then ({ p with shaft := { p.shaft.raise with drive := .turning } }, false) else (p, true)
  | .holding =>
    if p.lines.drvFlt then ({ p with shaft := { p.shaft with drive := .turning } }, false)
    else ({ p with shaft := p.shaft.disable }, true)
  | .turning => (p, false)
  | .positioning => ({ p with shaft := { p.shaft with runWaiting := true } }, false)

/-- The stop order of the planner: a demand of 0, and in TURNING the drive goes to POSITIONING with its timer (R70, R71). -/
def Part.stopOrder (p : Part) : Part :=
  { p with
    shaft := { p.shaft with
      demand := 0
      drive := if p.shaft.drive = .turning then .positioning else p.shaft.drive
      posSince := if p.shaft.drive = .turning then some p.now else p.shaft.posSince } }

/-- The needle-up band (R71). -/
def needleUp (angle : Nat) : Bool := decide (1008 ≤ angle) || decide (angle ≤ 16)

/-- Positioning completes: the drive goes to HOLDING, or takes the run order that waited (R70, R71). -/
def Shaft.positioned (q : Shaft) : Shaft :=
  { q with drive := if q.runWaiting then .turning else .holding, runWaiting := false, posSince := none }

/-! ## Decoding (R65, R66) -/

/-- A change of the pair ENC_A, ENC_B. -/
inductive PairChange where
  | still
  | forward
  | reverse
  | both
  deriving DecidableEq, Repr

/-- How the new levels of the pair are decoded against the old ones. Forward is the sense in which A leads B (log entry 7):
A changes while it equals B, or B changes while it differs from A. -/
def pairChange (a b a' b' : Bool) : PairChange :=
  match a != a', b != b' with
  | false, false => .still
  | true, true => .both
  | true, false => if a = b then .forward else .reverse
  | false, true => if a = b then .reverse else .forward

/-- The angle one count on, or one count back (R65). -/
def angleUp (a : Nat) : Nat := (a + 1) % 1024
def angleDown (a : Nat) : Nat := (a + 1023) % 1024

/-- The signed figure from −512 to +511 of an angle that should have been 0 (R66). -/
def signedAngle (a : Nat) : Int := if a < 512 then (a : Int) else (a : Int) - 1024

/-- A reverse count: angle, direction and the watch counts; the watches run only while DRV_EN is high (R65, R67). -/
def Shaft.countDown (q : Shaft) (index : Bool) : Shaft :=
  { q with
    angle := angleDown q.angle, reverse := true, lastIndex := index
    indexCount := if q.drive = .disabled then 0 else q.indexCount - 1
    reverseRun := if q.drive = .disabled then 0 else q.reverseRun + 1 }

/-- A forward count, with an index passage when ENC_I is newly active (R65, R66, R67). -/
def Shaft.countUp (q : Shaft) (index : Bool) : Shaft :=
  let passage := index && !q.lastIndex
  { q with
    angle := if passage then 0 else angleUp q.angle
    reverse := false
    lastIndex := index
    synced := q.synced || passage
    correction := if passage then signedAngle (angleUp q.angle) else q.correction
    indexCount := if passage || decide (q.drive = .disabled) then 0 else q.indexCount + 1
    reverseRun := 0 }

/-! ## Measured speed (R68) -/

/-- The count at a moment: the shaft is no longer standing. -/
def Shaft.counted (q : Shaft) (now : Nat) : Shaft := { q with standing := false, lastCount := now }

/-- A forward count that brings the angle to a multiple of 256 measures the speed over the time since the previous such
count; a time of no whole microsecond leaves it free (log entry 17). -/
def Part.measure (p : Part) : Part :=
  if p.shaft.angle % 256 = 0 then
    match p.shaft.lastQuarter with
    | none => { p with shaft := { p.shaft with lastQuarter := some p.now } }
    | some t =>
      if p.now = t then
        let (k, p1) := p.draw
        { p1 with shaft := { p1.shaft with lastQuarter := some p.now, speed := Config.speedOfNoTime k } }
      else { p with shaft := { p.shaft with lastQuarter := some p.now, speed := 15000000 / (p.now - t) } }
  else p

/-- 100 ms without a count: the shaft stands, the measured speed is 0 (R68). -/
def Shaft.stand (q : Shaft) : Shaft := { q with standing := true, speed := 0, lastQuarter := none }

/-! ## Landmarks (R69) -/

/-- The four landmarks. -/
inductive Landmark where
  | windowStart
  | commitAngle
  | exchangeAngle
  | trimAngle
  deriving DecidableEq, Repr

/-- The angle of a landmark. -/
def Shaft.landmarkAngle (q : Shaft) : Landmark → Nat
  | .windowStart => q.startAngle
  | .commitAngle => 200
  | .exchangeAngle => 400
  | .trimAngle => 640

/-- Whether a landmark has been delivered and is not armed again. -/
def Shaft.spent (q : Shaft) : Landmark → Bool
  | .windowStart => q.spentStart
  | .commitAngle => q.spentCommit
  | .exchangeAngle => q.spentExchange
  | .trimAngle => q.spentTrim

/-- Mark a landmark delivered, or armed again. -/
def Shaft.setSpent (q : Shaft) (b : Bool) : Landmark → Shaft
  | .windowStart => { q with spentStart := b }
  | .commitAngle => { q with spentCommit := b }
  | .exchangeAngle => { q with spentExchange := b }
  | .trimAngle => { q with spentTrim := b }

/-- A forward count has brought the angle half a revolution past a landmark: it is armed again. -/
def Shaft.rearmed (q : Shaft) (l : Landmark) : Bool :=
  q.spent l && decide (q.angle = (q.landmarkAngle l + 512) % 1024)

/-- The landmarks armed again at the present angle; the window start angle is read when its landmark is armed (R69). -/
def Shaft.rearm (q : Shaft) (wStart : Nat) : Shaft :=
  let r := q
  { q with
    startAngle := if r.rearmed .windowStart then wStart else q.startAngle
    spentStart := q.spentStart && !r.rearmed .windowStart
    spentCommit := q.spentCommit && !r.rearmed .commitAngle
    spentExchange := q.spentExchange && !r.rearmed .exchangeAngle
    spentTrim := q.spentTrim && !r.rearmed .trimAngle }

/-- Whether the present angle, reached by a forward count, delivers a landmark. -/
def Shaft.delivers (q : Shaft) (l : Landmark) : Bool :=
  q.synced && !q.spent l && decide (q.angle = q.landmarkAngle l)

/-- The landmarks the present angle delivers, in the order of the table of R69: window start may fall on the trim angle, and comes
first there (DESIGN CHOICE, log entry 28). -/
def Shaft.landmarks (q : Shaft) : List Landmark :=
  [Landmark.windowStart, .commitAngle, .exchangeAngle, .trimAngle].filter q.delivers

end Sys2Proof.Machine
end

