-- ==== Sys2Proof/Machine/Planner.lean ====
section
/-! DEFINITION. The motion planner (chapter 3): splitting, limit speeds, the fill, look-ahead, the speed demand, planned
stops and the flush. -/

namespace Sys2Proof.Machine

/-! ## Limit speeds and splitting (R44, R47, R48) -/

/-- W = 1,024 − W_s + W_e, the length of the move window (R47). -/
def Params.window (q : Params) : Nat := 1024 - q.wStart + q.wEnd

/-- The speed a kind cap stands for. -/
def Params.capSpeed (q : Params) : Cap → Nat
  | .vMax => q.vMax
  | .vJump => q.vJump
  | .vStop => q.vStop

/-- floor(45 × F × W / (1,024 × x)): the split capacity at a speed x (R47), the limit speed of a move of x steps (R48). -/
def Params.windowShare (q : Params) (f x : Nat) : Nat := 45 * f * q.window / (1024 * x)

/-- The lowest speed the planner will use for a kind (R47). -/
def Params.floorSpeed (q : Params) : StitchKind → Nat
  | .jump => q.vJump
  | _ => q.vMin

/-- The sub-move count of an ordinal with step counts `m` (R47). -/
def Params.subMoves (q : Params) (kind : StitchKind) (m : Vec) : Nat :=
  let v := q.floorSpeed kind
  let cx := q.windowShare q.fX v
  let cy := q.windowShare q.fY v
  if m.x.natAbs ≤ cx ∧ m.y.natAbs ≤ cy then 1
  else max 1 (max (ceilDiv m.x.natAbs cx) (ceilDiv m.y.natAbs cy))

/-- floor(i × |m| / q) − floor((i − 1) × |m| / q) steps with the sign of m (R47). -/
def subSteps (m : Int) (q i : Nat) : Int :=
  let a : Nat := i * m.natAbs / q - (i - 1) * m.natAbs / q
  if 0 ≤ m then (a : Int) else -(a : Int)

/-- The limit speed of an entry: the least of the axes' limits and its kind cap; an axis without steps bounds nothing
(R48). -/
def Params.limit (q : Params) (m : Vec) (cap : Cap) : Nat :=
  let x := if m.x = 0 then q.capSpeed cap else q.windowShare q.fX m.x.natAbs
  let y := if m.y = 0 then q.capSpeed cap else q.windowShare q.fY m.y.natAbs
  min (min x y) (q.capSpeed cap)

/-- The kind cap of an entry without stop-after (R44). -/
def kindCap : StitchKind → Cap
  | .normal => .vMax
  | .jump => .vJump
  | .trim => .vStop

/-- Entry `i` of an ordinal: a sub-move for i to q, the trim entry at q + 1; `stopped` makes it carry stop-after, with v_stop
as its kind cap (R43, R44). -/
def Params.entry (p : Params) (sv : Served) (m : Vec) (q i : Nat) (stopped : Bool) : Entry :=
  let trimEntry := decide (q < i)
  let steps : Vec := if trimEntry then Vec.zero else ⟨subSteps m.x q i, subSteps m.y q i⟩
  let cap := if stopped || trimEntry then Cap.vStop else kindCap sv.kind
  { ordinal := sv.ordinal, index := i, count := q, steps := steps
    down := !trimEntry && decide (sv.kind = .normal) && decide (i = q)
    trim := trimEntry || decide (sv.kind = .trim)
    cap := cap, vLim := p.limit steps cap, vAllow := p.limit steps cap, stopAfter := stopped
    issued := false, complete := false }

/-! ## Stops the fill places (R55, R56) -/

/-- The held stop, PENDING or PLACED. -/
def PlannedStop.held : PlannedStop → Option (Nat × Bool × StopOrigin)
  | .none => Option.none
  | .pending o t g => some (o, t, g)
  | .placed o t g => some (o, t, g)

/-- What the held stop says of an ordinal. -/
def PlannedStop.at (s : PlannedStop) (o : Nat) : Option (Bool × StopOrigin) :=
  match s.held with
  | some (k, t, g) => if k = o then some (t, g) else Option.none
  | Option.none => Option.none

/-- Whether an ordinal receives a trim entry (R44): `asked` when a planned stop there asks for a trim. -/
def Served.trimmed (sv : Served) (asked : Bool) : Bool :=
  decide (sv.kind ≠ .trim) &&
    ((match sv.runEnd with
      | some (_, t) => t
      | none => false) || sv.blockEnd || sv.designEnd || asked)

/-- The stop a run boundary places after an ordinal (R56); in a repair run HALT_AFTER places none (R199). -/
def Served.boundaryStop (sv : Served) (inRepair : Bool) : Option (Bool × StopOrigin) :=
  if sv.designEnd then some (true, .designEnd)
  else if sv.blockEnd then some (true, .colour)
  else
    match sv.runEnd with
    | some (true, t) => if inRepair then none else some (t, .halt)
    | _ => none

/-- Two stops on one ordinal are one: it asks for a trim if either does, and the origin is the held one unless the fill's is
COLOUR or END (R55). -/
def mergeStop (held met : Option (Bool × StopOrigin)) : Option (Bool × StopOrigin) :=
  match held, met with
  | none, m => m
  | some h, none => some h
  | some (t, g), some (t', g') => some (t || t', if g' = .colour ∨ g' = .designEnd then g' else g)

/-- Whether an ordinal of the active design has a trim entry now. -/
def Part.hasTrim (p : Part) (sv : Served) : Bool := sv.trimmed (((p.plan.stop.at sv.ordinal).map Prod.fst).getD false)

/-- The served record of an ordinal of the active design. -/
def Part.serve (p : Part) (o : Nat) : Option Served :=
  match p.activeDesign with
  | some x => p.lib.serve x o
  | none => none

/-! ## The fill (R45) -/

/-- The states in which the planner fills (R45). -/
def Part.mayFill (p : Part) : Bool := p.sews || p.repairSewing.isSome

/-- Take the step counts of an ordinal: the planning accumulator, set to P when it is absent, advances (R31). -/
def Part.takeSteps (p : Part) (d : Vec) : Part × Vec :=
  let a := p.pos.plan.getD p.pos.pOrZero
  let b := a.add (p.idealStep d)
  ({ p with pos := { p.pos with plan := some b } }, (p.committed b).sub (p.committed a))

/-- The step counts and sub-move count of the ordinal at the fill point, taken on reaching it (R45, R47). -/
def Part.takeSplit (p : Part) (f : FillPoint) (sv : Served) : Part × Vec × Nat :=
  match f.split with
  | some (m, q) => (p, m, q)
  | none =>
    let (p', m) := p.takeSteps sv.d
    (p', m, if sv.kind = .trim then 1 else p.par.subMoves sv.kind m)

/-- Append the entry at the fill point, which then names the next pair; the last entry of a stop ordinal carries stop-after
and the record becomes PLACED (R45, R55, R56). After the last ordinal of the design the fill point is (T, 1), which only LOOKUP PLAN
shows (DESIGN CHOICE, log entry 52). -/
def Part.appendPair (p0 : Part) (f : FillPoint) (sv : Served) : Part :=
  let (p, m, q) := p0.takeSplit f sv
  let last := if p.hasTrim sv then q + 1 else q
  if f.index < last then
    { p with
      plan := { p.plan with
        queue := p.plan.queue ++ [p.par.entry sv m q f.index false]
        fill := some ⟨f.ordinal, f.index + 1, some (m, q)⟩ } }
  else
    match mergeStop (p.plan.stop.at sv.ordinal) (sv.boundaryStop p.repairing.isSome) with
    | none =>
      { p with
        plan := { p.plan with
          queue := p.plan.queue ++ [p.par.entry sv m q f.index false], fill := some ⟨f.ordinal + 1, 1, none⟩ } }
    | some (t, g) =>
      { p with
        plan := { p.plan with
          queue := p.plan.queue ++ [p.par.entry sv m q f.index true]
          fill := some ⟨f.ordinal + 1, 1, none⟩
          stop := .placed sv.ordinal t g } }

/-- Append one entry, when the planner may (R45). -/
def Part.fillOne (p : Part) : Part :=
  if p.mayFill && decide (p.plan.queue.length < Config.queueMax) && p.plan.queue.all fun e => !e.stopAfter then
    match p.plan.fill with
    | none => p
    | some f =>
      match p.serve f.ordinal with
      | none => p
      | some sv => p.appendPair f sv
  else p

/-- Apply an operation a number of times. -/
def iterate {α : Type} (f : α → α) : Nat → α → α
  | 0, a => a
  | k + 1, a => iterate f k (f a)

/-- Fill the queue: it holds at most 16 entries, so 16 appendings fill it (R45). -/
def Part.fillQueue (p : Part) : Part := iterate Part.fillOne Config.queueMax p

/-! ## Look-ahead and demand (R49 to R51, R59) -/

/-- v_allow over the queue from tail to head (R49). -/
def lookAhead (q : Params) : List Entry → List Entry
  | [] => []
  | [e] => [{ e with vAllow := min e.vLim (if e.stopAfter then q.vStop else q.vMin + q.slew) }]
  | e :: f :: rest =>
    match lookAhead q (f :: rest) with
    | [] => [e]
    | g :: rest' => { e with vAllow := min e.vLim (g.vAllow + q.slew) } :: g :: rest'

/-- Look-ahead on the planning queue. -/
def Part.runLookAhead (p : Part) : Part := { p with plan := { p.plan with queue := lookAhead p.par p.plan.queue } }

/-- v_set at a demand computation (R51). -/
def Part.followSet (p : Part) (prev : Nat) : Nat :=
  if p.ctl.state = .stopping then p.plan.requested
  else if p.plan.vSet ≤ p.plan.requested then p.plan.requested
  else max p.plan.requested (prev - p.par.slew)

/-- The first demand after a flush: min(v_allow(e1), v_min), no previous demand (R50). -/
def Part.firstDemand (p : Part) : Part :=
  let v := p.followSet 0
  let d :=
    match p.plan.queue.head? with
    | some e => min e.vAllow p.par.vMin
    | none => 0
  ({ p with plan := { p.plan with vSet := v, demand := d, prev := none } } : Part).handDemand d

/-- The demand of the new head entry by the law in force: R59 while slowing to a controlled stop, R50 otherwise. -/
def Part.lawDemand (p : Part) (e : Entry) (prev vSet : Nat) : Nat :=
  if p.slowing then min (min e.vAllow vSet) (max p.par.vStop (prev - p.par.stopSlew))
  else min (min e.vAllow (prev + p.par.slew)) vSet

/-- Entry `e` is the last of its ordinal (R44). -/
def Part.isLastEntry (p : Part) (e : Entry) : Bool :=
  match p.serve e.ordinal with
  | some sv => decide (e.index = if p.hasTrim sv then e.count + 1 else e.count)
  | none => decide (e.count ≤ e.index)

/-- Set stop-after on an entry in the queue: kind cap v_stop, v_lim the lesser of its own and v_stop (R44, R48). -/
def Entry.markStop (e : Entry) (q : Params) : Entry :=
  { e with stopAfter := true, cap := .vStop, vLim := min e.vLim q.vStop }

/-- R60: while slowing, a head entry at or below v_stop that ends its ordinal is made the last revolution. The fill point
stays where it stood until the flush (DESIGN CHOICE, log entry 52). -/
def Part.controlledStop (p : Part) : Part :=
  match p.plan.queue with
  | [] => p
  | e :: _ =>
    if p.slowing && decide (p.plan.demand ≤ p.par.vStop) && p.isLastEntry e then
      let r := (p.plan.stop.at e.ordinal).getD (false, .count)
      { p with plan := { p.plan with queue := [e.markStop p.par], stop := .placed e.ordinal r.1 r.2 } }
    else p

/-- The demand after a commit (R50, R59), then the test of R60; 0 with an empty queue. -/
def Part.nextDemand (p : Part) : Part :=
  let prev := p.plan.demand
  match p.plan.queue with
  | [] => ({ p with plan := { p.plan with demand := 0, prev := some prev } } : Part).handDemand 0
  | e :: _ =>
    let v := p.followSet prev
    let d := p.lawDemand e prev v
    (({ p with plan := { p.plan with vSet := v, demand := d, prev := some prev } } : Part).handDemand d).controlledStop

/-- The demand of a revolution repeated after a late move: lower by slew, or by stop_slew while slowing, not below 100 SPM
(R53). -/
def Part.lateDemand (p : Part) : Part :=
  let prev := p.plan.demand
  let d := max 100 (prev - (if p.slowing then p.par.stopSlew else p.par.slew))
  ({ p with plan := { p.plan with demand := d, prev := some prev } } : Part).handDemand d

/-! ## The flush (R46) -/

/-- Debounce count, low-motion run and first low ordinal become 0, 0 and absent (R165). -/
def Sensing.fresh (s : Sensing) : Sensing := { s with debounce := 0, lowRun := 0, firstLow := none }

/-- A flush: queue, fill point, split, stop record and demand; the planning accumulator is dropped (R31), the counts of R165
start afresh and the restore marks are dropped (R193). -/
def Part.flush (p : Part) : Part :=
  ({ p with
      plan := { p.plan with queue := [], fill := none, stop := .none, demand := 0, prev := none }
      pos := { p.pos with plan := none }
      mon := { p.mon with sensing := p.mon.sensing.map Sensing.fresh }
      cases := { p.cases with marks := p.cases.marks.map fun _ => none } } : Part).handDemand 0

/-- The fill of a sewing that begins at ordinal `o`, its look-ahead and its first demand (R45, R50, R91). -/
def Part.beginFill (p : Part) (o : Nat) : Part :=
  (({ p with
      plan := { p.plan with queue := [], fill := some ⟨o, 1, none⟩ }
      pos := { p.pos with plan := none } } : Part).fillQueue.runLookAhead).firstDemand

/-! ## Count stops (R57) -/

/-- The place of an ordinal's last entry in the queue, counted from 1, for the first ordinal whose last entry stands at
`need` or later. -/
def Part.queuedStop (p : Part) (need : Nat) : List Entry → Nat → Option Nat
  | [], _ => none
  | e :: rest, i => if need ≤ i ∧ p.isLastEntry e then some e.ordinal else p.queuedStop need rest (i + 1)

/-- The first ordinal beyond the tail whose last entry would stand at `need` or later, as the fill would place it; T when the
design ends before. `pos` entries stand before the fill point. -/
def Part.virtualStop (need : Nat) : Nat → Part → FillPoint → Nat → Nat
  | 0, _, f, _ => f.ordinal
  | fuel + 1, p, f, pos =>
    match p.serve f.ordinal with
    | none => f.ordinal
    | some sv =>
      let (p', _, q) := p.takeSplit f sv
      let last := if p'.hasTrim sv then q + 1 else q
      let pos' := pos + (last + 1 - f.index)
      if need ≤ pos' then f.ordinal else Part.virtualStop need fuel p' ⟨f.ordinal + 1, 1, none⟩ pos'

/-- The least ordinal whose last entry stands at position `need` or later (R57, step 2). -/
def Part.stopFloor (p : Part) (need : Nat) : Nat :=
  match p.queuedStop need p.plan.queue 1 with
  | some o => o
  | none =>
    match p.plan.fill with
    | some f => Part.virtualStop need (need + 1) p f p.plan.queue.length
    | none => 0

/-- Whether the last entry of an ordinal is in the queue. -/
def Part.lastQueued (p : Part) (o : Nat) : Bool :=
  p.plan.queue.any fun e => decide (e.ordinal = o) && p.isLastEntry e

/-- The entries up to the last of ordinal `o`, which takes stop-after (R57, step 5). -/
def cutAfter (p : Part) (o : Nat) : List Entry → List Entry
  | [] => []
  | e :: rest => if e.ordinal = o ∧ p.isLastEntry e then [e.markStop p.par] else e :: cutAfter p o rest

/-- The stop ordinal a count stop asks for, moved as late as the look-ahead needs (R57, steps 1 and 2). -/
def Part.countOrdinal (p : Part) (n : Nat) : Nat :=
  max (p.ctl.c.getD 0 + n) (p.stopFloor (ceilDiv (p.plan.demand - p.par.vStop) p.par.slew + 1))

/-- The stop a count stop at `s` gives way to: a held stop or the design end at or before it (R57, step 3). -/
def Part.earlierStop (p : Part) (s : Nat) : Option Nat :=
  let t := ((p.activeDesign.map Design.total).getD 0) - 1
  match p.plan.stop.held with
  | some (o, _, _) => if o ≤ s then some o else if t ≤ s then some t else none
  | none => if t ≤ s then some t else none

/-- A count stop after ordinal c + n with an origin: the part and the chosen stop ordinal (R57). -/
def Part.countStop (p : Part) (n : Nat) (origin : StopOrigin) : Part × Nat :=
  let s := p.countOrdinal n
  match p.earlierStop s with
  | some o => (p, o)
  | none =>
    if p.lastQueued s then
      ({ p with
          plan := { p.plan with
            queue := cutAfter p s p.plan.queue, fill := some ⟨s + 1, 1, none⟩, stop := .placed s false origin }
          pos := { p.pos with plan := some (p.idealStanding (s + 1)) } }, s)
    else ({ p with plan := { p.plan with stop := .pending s false origin } }, s)

end Sys2Proof.Machine
end

