-- ==== Sys2Proof/Machine/Stops.lean ====
section
/-! DEFINITION. Stops asked of the run controller: by a fault or a full case table (R97, R202), by the STOP request and the
STOP line (R95, R96, R202), and the small helpers of its state changes. -/

namespace Sys2Proof.Machine

/-- The states on whose entry v_set becomes the requested speed at once (R51). -/
def CtlState.followsSpeed : CtlState → Bool
  | .unready | .traversing | .ready | .changing | .locked => true
  | .starting | .running | .stopping | .repairing => false

/-- Enter a controller state (R84); outside STARTING, RUNNING, STOPPING and REPAIRING v_set is the requested speed (R51, log entry
23). -/
def Part.enter (p : Part) (st : CtlState) : Part :=
  { p with
    ctl := { p.ctl with state := st }
    plan := { p.plan with vSet := if st.followsSpeed then p.plan.requested else p.plan.vSet } }

/-- The part `q` that a CLEAR makes of `p`, with the v_set of `p`, which a CLEAR keeps (R64). -/
def Part.keepSpeed (p q : Part) : Part := { q with plan := { q.plan with vSet := p.plan.vSet } }

/-- The stop cause a pending cause becomes (R99). -/
def Pending.cause : Pending → Cause
  | .stop => .stop
  | .line => .line
  | .fault => .fault
  | .casesFull => .casesFull

/-- Set the pending cause if none is pending (R95, R97). -/
def Part.pend (p : Part) (c : Pending) : Part :=
  { p with ctl := { p.ctl with pending := some (p.ctl.pending.getD c) } }

/-- STOPPING with phase SLOWING and a pending cause (R95 to R97). -/
def Part.slowDown (p : Part) (c : Pending) : Part :=
  (({ p with ctl := { p.ctl with phase := some .slowing } } : Part).enter .stopping).pend c

/-- A BACK or FWD travel is to end after the leg in progress, with a cause if a fault asks it (R97, R102). -/
def Part.endTravel (p : Part) (cause : Option Cause) : Part :=
  match p.ctl.travel with
  | some t =>
    { p with
      ctl := { p.ctl with
        travel := some { t with
          stopAsked := true
          cause := match t.cause with
            | some c => some c
            | none => cause } } }
  | none => p

/-- The kind of the travel in progress. -/
def Part.travelKind (p : Part) : Option TravelKind := p.ctl.travel.map Travel.kind

/-- BACK or FWD. -/
def TravelKind.byOrdinal : TravelKind → Bool
  | .back | .fwd => true
  | _ => false

/-- A stop request of the fault unit or the case table, by controller state (R97, R202). -/
def Part.askStop (p : Part) (c : Pending) : Part :=
  match p.ctl.state with
  | .starting | .running => p.slowDown c
  | .stopping | .changing | .repairing => p.pend c
  | .ready => if p.ctl.cause = .designEnd then p else { p with ctl := { p.ctl with cause := c.cause } }
  | .traversing =>
    match p.travelKind with
    | some k => if k.byOrdinal then p.endTravel (some c.cause) else p
    | none => p
  | .unready | .locked => p

/-- The phase of the repair run. -/
def Part.repairPhase (p : Part) : Option RepairPhase := p.ctl.repair.map Repair.phase

/-- What STOP, by request or line, does: the part, the status of the response, the chosen stop ordinal if one is carried
(R95, R96, R202). `n` is the count, `c` the pending cause and `g` the origin of a count stop. -/
def Part.orderStop (p : Part) (n : Nat) (c : Pending) (g : StopOrigin) : Part × Status × Option Nat :=
  match p.ctl.state with
  | .unready | .ready => (p, .done, none)
  | .starting | .running =>
    if n = 0 then (p.slowDown c, .done, none)
    else
      let r := p.countStop n g
      (r.1, .done, some r.2)
  | .stopping =>
    if p.ctl.phase = some .settling then (p.pend c, .done, none)
    else if n = 0 then (p, .done, none)
    else
      let r := p.countStop n g
      (r.1, .done, some r.2)
  | .changing => (p.pend c, .done, none)
  | .traversing =>
    match p.travelKind with
    | some .back | some .fwd => (p.endTravel none, .done, none)
    | some .jog => (p.stopJog, .done, none)
    | _ => (p, .busy, none)
  | .repairing =>
    match p.repairPhase with
    | some .prepare | some .sewing => (p.pend c, .done, none)
    | _ => (p, .busy, none)
  | .locked => (p, .locked, none)

end Sys2Proof.Machine
end

