-- ==== Sys2Proof/Machine/Cases.lean ====
section
/-! DEFINITION. The case table (chapter 10): opening, absorption, what a commit does, closing, restore marks, retirement and
the settling of a repair. -/

namespace Sys2Proof.Machine

/-- Record `k` of the case table. -/
def Part.caseAt (p : Part) (k : Nat) : Option Case := p.cases.records.getD k none

/-- Store record `k`. -/
def Part.setCase (p : Part) (k : Nat) (r : Option Case) : Part :=
  { p with cases := { p.cases with records := p.cases.records.set k r } }

/-- The record numbers 0 to 39. -/
def caseNumbers : List Nat := List.range Config.caseCount

/-- The lowest free record (R185). -/
def Part.freeCase (p : Part) : Option Nat := caseNumbers.find? fun k => (p.caseAt k).isNone

/-- The number of a head's OPEN case, if it has one. -/
def Part.openCaseOf (p : Part) (h : Nat) : Option Nat :=
  caseNumbers.find? fun k =>
    match p.caseAt k with
    | some r => decide (r.head = h ∧ r.state = .isOpen)
    | none => false

/-- The highest ordinal an OPEN case covers: the greater of c − 1 and its floor; −1 for neither (R185). -/
def Part.reach (p : Part) (r : Case) : Int :=
  max ((p.ctl.c.getD 0 : Nat) - 1 : Int) (match r.floor with
    | some f => (f : Int)
    | none => -1)

/-- The last ordinal a case covers (R185). -/
def Part.lastCovered (p : Part) (r : Case) : Int :=
  match r.last with
  | some l => (l : Int)
  | none => p.reach r

/-- Whether a case covers an ordinal (R185). -/
def Part.covers (p : Part) (r : Case) (o : Nat) : Bool :=
  decide (r.first ≤ o) && decide ((o : Int) ≤ p.lastCovered r)

/-- The greater of an optional ordinal and another. -/
def maxOpt (a b : Option Nat) : Option Nat :=
  match a, b with
  | none, b => b
  | a, none => a
  | some x, some y => some (max x y)

/-- Retire a case by the table's own rules: the record is free, the CASE notice is raised (R185). -/
def Part.retireCase (p : Part) (k : Nat) : Part := (p.setCase k none).notice .case

/-- Absorb into case `k` one CLOSED case of the same head and design whose first satisfies `takes`: it is retired, and the
floor is raised to its last (R187, step 3). -/
def Part.absorbOne (k : Nat) (takes : Nat → Bool) (p : Part) (j : Nat) : Part :=
  match p.caseAt k, p.caseAt j with
  | some r, some q =>
    if j ≠ k ∧ q.head = r.head ∧ q.design = r.design ∧ q.state = .closed ∧ takes q.first = true then
      (p.setCase k (some { r with floor := maxOpt r.floor q.last })).retireCase j
    else p
  | _, _ => p

/-- Absorb every CLOSED case whose first satisfies `takes`. -/
def Part.absorb (p : Part) (k : Nat) (takes : Nat → Bool) : Part := caseNumbers.foldl (Part.absorbOne k takes) p

/-- Retire one MENDED case of a head and design that satisfies `takes`. -/
def Part.supersedeOne (h d : Nat) (takes : Case → Bool) (p : Part) (j : Nat) : Part :=
  match p.caseAt j with
  | some q =>
    if q.head = h ∧ q.design = d ∧ q.state = .mended ∧ takes q = true then p.retireCase j else p
  | none => p

/-- Retire every MENDED case of a head and design that satisfies `takes`. -/
def Part.supersede (p : Part) (h d : Nat) (takes : Case → Bool) : Part :=
  caseNumbers.foldl (Part.supersedeOne h d takes) p

/-- Whether a MENDED case shares an ordinal with first to `last`: some ordinal lies in both ranges, so neither is empty
(R187, R192). -/
def shares (first : Nat) (last : Int) (q : Case) : Bool :=
  match q.last with
  | some l => decide (((max first q.first : Nat) : Int) ≤ min last (l : Int))
  | none => false

/-- What the OPEN case `k` absorbs and supersedes within its reach (R187, step 3). -/
def Part.settleOpen (p : Part) (k : Nat) : Part :=
  match p.caseAt k with
  | none => p
  | some r =>
    let hi := p.reach r
    let p' := p.absorb k fun f => decide (r.first < f) && decide ((f : Int) ≤ hi)
    match p'.caseAt k with
    | none => p'
    | some r' => p'.supersede r.head r.design (shares r'.first (p'.reach r'))

/-- The CLOSED case of a head in the block that an opening at `o` reopens: first ≤ o ≤ last + 1, the lowest first
(R187, step 1). -/
def Part.reopens (p : Part) (h d : Nat) (b : Block) (o : Nat) : Option Nat :=
  let fits := caseNumbers.filter fun k =>
    match p.caseAt k with
    | some q =>
      decide (q.head = h ∧ q.design = d ∧ q.state = .closed ∧ b.first ≤ q.first ∧ q.first ≤ b.last ∧ q.first ≤ o) &&
        (match q.last with
         | some l => decide (o ≤ l + 1)
         | none => false)
    | none => false
  let first k := ((p.caseAt k).map Case.first).getD 0
  fits.foldl (fun best k => match best with
    | none => some k
    | some j => if first k < first j then some k else some j) none

/-- A CLOSED case is reopened: OPEN, floor the greater of its old last and `f`, last absent (R187, step 1). -/
def Case.reopen (q : Case) (f : Option Nat) : Case := { q with state := .isOpen, floor := maxOpt q.last f, last := none }

/-- A case is opened for head `h` at ordinal `o` with a carried floor (R187, R189). -/
def Part.openCase (p : Part) (h o : Nat) (f : Option Nat) : Part :=
  match p.ctl.design, p.activeDesign with
  | some d, some x =>
    match x.blockOf o with
    | none => p
    | some b =>
      match p.reopens h d b o with
      | some k =>
        match p.caseAt k with
        | some q => ((p.setCase k (some (q.reopen f))).notice .case).settleOpen k
        | none => p
      | none =>
        match p.freeCase with
        | some k =>
          ((p.setCase k (some
            { head := h, design := d, slot := b.slot, first := o, last := none, floor := f, state := .isOpen
              progress := none })).notice .case).settleOpen k
        | none => p.askStop .casesFull
  | _, _ => p

/-- The OPEN case `k` is opened anew at an ordinal below its first: it keeps its record and its floor, or merges into a
CLOSED case that reaches the ordinal (R190). -/
def Part.reopenBelow (p : Part) (k o : Nat) (r : Case) : Part :=
  match (p.activeDesign.bind fun x => x.blockOf o) with
  | none => p
  | some b =>
    match p.reopens r.head r.design b o with
    | some j =>
      match p.caseAt j with
      | some q => ((p.retireCase k).setCase j (some (q.reopen r.floor))).settleOpen j
      | none => p
    | none => ((p.setCase k (some { r with first := o, slot := b.slot })).notice .case).settleOpen k

/-! ## Closing (R192) -/

/-- Close the OPEN case `k` at an ordinal `x` (R192). -/
def Part.closeCase (p : Part) (x k : Nat) : Part :=
  match p.caseAt k with
  | none => p
  | some r =>
    let p1 := p.absorb k fun f => decide (r.first < f) && decide (f < x)
    match p1.caseAt k with
    | none => p1
    | some r1 =>
      let last : Int := max ((x : Int) - 1) (match r1.floor with
        | some f => (f : Int)
        | none => -1)
      let p2 := p1.supersede r1.head r1.design (shares r1.first last)
      if last < (r1.first : Int) then p2.retireCase k
      else
        (p2.setCase k (some { r1 with state := .closed, last := some last.toNat, floor := none })).notice .case

/-- Close a head's OPEN case at `x`, if it has one (R192). -/
def Part.closeOpenOf (p : Part) (h x : Nat) : Part :=
  match p.openCaseOf h with
  | some k => p.closeCase x k
  | none => p

/-- Close every OPEN case at `x` (R92, R108). -/
def Part.closeAllOpen (p : Part) (x : Nat) : Part := p.forHeads allHeads fun q h => q.closeOpenOf h x

/-! ## Parks told to the table (R186, R188) -/

/-- The case table is told of a park of head `h` while the controller sews; `breakOrdinal` for a park with cause BREAK
(R186). -/
def Part.parkTold (p : Part) (h : Nat) (breakOrdinal : Option Nat) : Part :=
  if p.sews then
    let c := p.ctl.c.getD 0
    match breakOrdinal with
    | none => p.openCase h c none
    | some o =>
      let p' := p.openCase h o none
      match p.activeDesign.bind fun x => x.blockOf o with
      | some b => if b.last < c then p'.closeOpenOf h (b.last + 1) else p'
      | none => p'
  else p

/-- Whether a head is PARKED. -/
def HeadState.isParked : HeadState → Bool
  | .parked _ => true
  | _ => false

/-- On entry into STARTING a case is opened at c for every PARKED head without one, in ascending head number (R188). -/
def Part.openForParked (p : Part) : Part :=
  p.forHeads allHeads fun q h =>
    if (q.head h).state.isParked && (q.openCaseOf h).isNone then q.openCase h (q.ctl.c.getD 0) none else q

/-! ## Commits (R190, R191, R193) -/

/-- R190 for the OPEN case of one head, by the committed ordinal and the head's recorded mode. -/
def Part.commitOpen (o : Nat) (p : Part) (h : Nat) : Part :=
  match p.openCaseOf h with
  | none => p
  | some k =>
    match p.caseAt k with
    | none => p
    | some r =>
      if some r.design ≠ p.ctl.design then p
      else if o = r.first ∧ (p.link h).recorded.down then p.setCase k (some { r with first := o + 1 })
      else if o < r.first then p.reopenBelow k o r
      else (p.absorb k fun f => decide (f = o)).supersede r.head r.design fun q => decide (q.first = o)

/-- R191 for one record: front-trim of a CLOSED case whose first its head has sewn DOWN. -/
def Part.trimFront (o : Nat) (p : Part) (k : Nat) : Part :=
  match p.caseAt k with
  | none => p
  | some r =>
    if some r.design = p.ctl.design ∧ r.state = .closed ∧ r.first = o ∧ (p.link r.head).recorded.down then
      match r.last with
      | some l => if l < o + 1 then p.retireCase k else p.setCase k (some { r with first := o + 1 })
      | none => p
    else p

/-- The restore mark of a head (R193). -/
def Part.markOf (p : Part) (h : Nat) : Option Nat := nth1 p.cases.marks none h

/-- Record an ordinal a restored head did not sew (R193). -/
def Part.recordMissed (p : Part) (h o : Nat) : Part :=
  match p.ctl.design, p.activeDesign.bind fun x => x.blockOf o with
  | some d, some b =>
    let mine (f : Case → Bool) : Option Nat := caseNumbers.find? fun k =>
      match p.caseAt k with
      | some q => decide (q.head = h ∧ q.design = d) && f q
      | none => false
    if (mine fun q => p.covers q o).isSome then p
    else
      match mine fun q =>
          decide (q.state = .closed ∧ b.first ≤ q.first ∧ q.first ≤ b.last) && decide (q.last.map (· + 1) = some o) with
      | some k =>
        match p.caseAt k with
        | some q => p.setCase k (some { q with last := some o })
        | none => p
      | none =>
        match p.freeCase with
        | some k =>
          (p.setCase k (some
            { head := h, design := d, slot := b.slot, first := o, last := some o, floor := none, state := .closed
              progress := none })).notice .case
        | none => p.askStop .casesFull
  | _, _ => p

/-- R193 for one head at the commit of ordinal `o`; `sewn` when the ordinal's last sub-move is DOWN (log entry 18). -/
def Part.commitMark (o : Nat) (sewn : Bool) (p : Part) (h : Nat) : Part :=
  if p.markOf h = some o ∧ sewn = true ∧ (p.link h).recorded.down = false then p.recordMissed h o else p

/-- All restore marks are dropped (R193). -/
def Part.dropMarks (p : Part) : Part :=
  { p with cases := { p.cases with marks := p.cases.marks.map fun _ => none } }

/-- The case table is told that ordinal `o` is committed (R190, R191, R193), in this order, each in ascending head or record number
(DESIGN CHOICE, log entry 67). -/
def Part.commitCases (p : Part) (o : Nat) (sewn : Bool) : Part :=
  let p1 := p.forHeads allHeads (Part.commitOpen o)
  let p2 := caseNumbers.foldl (Part.trimFront o) p1
  (p2.forHeads allHeads (Part.commitMark o sewn)).dropMarks

/-- A restore taken while the controller sews sets the head's restore mark at c (R193). -/
def Part.markRestore (p : Part) (h : Nat) : Part :=
  if p.sews then { p with cases := { p.cases with marks := set1 p.cases.marks h p.ctl.c } } else p

/-! ## Cases that name a design (R195) -/

/-- OPEN, CLOSED or REPAIRING. -/
def CaseState.isLive : CaseState → Bool
  | .mended => false
  | _ => true

/-- Whether a case in OPEN, CLOSED or REPAIRING names design `d`. -/
def Part.casesName (p : Part) (d : Nat) : Bool :=
  p.cases.records.any fun
    | some r => decide (r.design = d) && r.state.isLive
    | none => false

/-- Retire every case that names design `d` and satisfies `takes`, without notice (R195). -/
def Part.discardCases (p : Part) (d : Nat) (takes : CaseState → Bool) : Part :=
  { p with
    cases := { p.cases with
      records := p.cases.records.map fun
        | some r => if r.design = d ∧ takes r.state = true then none else some r
        | none => none } }

/-! ## The case of a repair run (R196 to R200) -/

/-- The REPAIRING case is set CLOSED with its fields as they were (R197, R198). -/
def Part.releaseCase (p : Part) (k : Nat) : Part :=
  match p.caseAt k with
  | some r => (p.setCase k (some { r with state := .closed, progress := none })).notice .case
  | none => p

/-- The settling of a REPAIRING case: MENDED when its new first exceeds its last, CLOSED from the new first otherwise
(R200). -/
def Part.settleCase (p : Part) (k : Nat) (breakOrdinal : Option Nat) : Part :=
  match p.caseAt k with
  | some r =>
    let f := min (r.progress.getD r.first) (breakOrdinal.getD (r.progress.getD r.first))
    let done := match r.last with
      | some l => decide (l < f)
      | none => true
    (p.setCase k (some
      (if done then { r with state := .mended, progress := none }
       else { r with state := .closed, first := f, progress := none }))).notice .case
  | none => p

/-- Repair progress at the commit of ordinal `o` (R199). -/
def Part.repairProgress (p : Part) (k h o : Nat) (sewn : Bool) : Part :=
  match p.caseAt k with
  | some r =>
    if r.progress = some o ∧ ¬(sewn = true ∧ (p.link h).recorded.down = false) then
      p.setCase k (some { r with progress := some (o + 1) })
    else p
  | none => p

end Sys2Proof.Machine
end

