-- ==== Sys2Proof/Machine/Chain.lean ====
section
/-! DEFINITION. The head chain controller (chapter 4): exchanges, commands, the revised command, the hold frames and what
they record, reports, and the bytes of every chain frame (R217, R218). -/

namespace Sys2Proof.Machine

/-! ## The bytes of chain frames (R217, R218) -/

/-- A frame body followed by its CRC (R208). -/
def withCrc (body : List Byte) : List Byte := body ++ [crc8 body]

/-- A tag on the wire: the ordinal modulo 256, 0 for none (R54, R217). -/
def tagByte (o : Option Nat) : Nat := (o.map (· % 256)).getD 0

/-- A sample order: angle in bits 9 to 0, use in bit 15 (R218). -/
def SampleOrder.word (o : SampleOrder) : Nat := (if o.use = .settle then 32768 else 0) + o.angle % 1024

/-- The selector order byte and the target detent (R218). -/
def SelectorOrder.pair : SelectorOrder → Nat × Nat
  | .none => (0, 0)
  | .move t => (1, t)
  | .halt => (2, 0)

/-- The flags byte of a command: sewing, tag present, DOWN, trim, acknowledge, revised in bits 7 to 2 (R218). -/
def CommandFrame.flags (f : CommandFrame) : Nat :=
  (if f.sewing then 128 else 0) + (if f.command.ordinal.isSome then 64 else 0) + (if f.command.down then 32 else 0) +
    (if f.command.trim then 16 else 0) + (if f.acknowledge then 8 else 0) + (if f.revised then 4 else 0)

/-- The bytes of a chain frame (R217, R218). R68 sets the measured speed no bound: one above 65,535 stands in its two bytes as a free
value (DESIGN CHOICE, log entry 16). -/
def ChainFrame.bytes : ChainFrame → List Byte
  | .poll q k n =>
    withCrc (beBytes 1 0xA1 ++ beBytes 1 q ++ beBytes 1 (if k = .sewing then 0 else 1) ++ beBytes 1 n)
  | .command f =>
    withCrc (beBytes 1 0xC3 ++ beBytes 1 f.head ++ beBytes 1 f.seq ++ beBytes 1 (tagByte f.command.ordinal) ++
      beBytes 1 f.flags ++ beBytes 2 (wireValue 2 f.speed) ++ beBytes 1 f.order.pair.1 ++ beBytes 1 f.order.pair.2 ++
      beBytes 1 f.command.orders.length ++
      ((f.command.orders.map SampleOrder.word ++ List.replicate 4 0).take 4).flatMap (beBytes 2))
  | .hold q purpose flag =>
    withCrc (beBytes 1 0xD4 ++ beBytes 1 q ++ beBytes 1 (if purpose = .commit then 0 else 1) ++ beBytes 1 flag.toNat)

/-- Put a frame on the chain. -/
def Part.putFrame (p : Part) (f : ChainFrame) : Part := { p with chain := { p.chain with out := p.chain.out ++ [f] } }

/-! ## Reports (R75, R217) -/

/-- A report frame's content: sequence number, tag or none, mode, button, moving, pulses, detent or BETWEEN, samples. -/
structure Report where
  seq : Nat
  tag : Option Nat
  down : Bool
  button : Bool
  moving : Bool
  pulses : Nat
  detent : Option Nat
  samples : List (Option Nat)
  deriving DecidableEq, Repr

/-- A sample field: the value in bits 9 to 0, bit 15 set when present (R217). -/
def sampleField (hi lo : Byte) : Option Nat :=
  if hi.toNat ≥ 128 then some ((hi.toNat % 4) * 256 + lo.toNat) else none

/-- The report a frame of 15 bytes carries: type 0xB2 and a correct CRC, or none (R217). -/
def parseReport (frame : List Byte) : Option Report :=
  match frame with
  | [ty, q, tag, fl, pu, po, a, b, c, d, e, f, g, h, _] =>
    if ty.toNat = 0xB2 ∧ crc8 frame = 0#8 then
      some
        { seq := q.toNat
          tag := if fl.toNat.testBit 7 then some tag.toNat else none
          down := fl.toNat.testBit 6
          button := fl.toNat.testBit 5
          moving := fl.toNat.testBit 4
          pulses := pu.toNat
          detent := if 1 ≤ po.toNat ∧ po.toNat ≤ Config.needleCount then some po.toNat else none
          samples := [sampleField a b, sampleField c d, sampleField e f, sampleField g h] }
    else none
  | _ => none

/-- A report is valid when its sequence number is the poll's and, in a sewing exchange, its tag and mode are those expected
of the head (R75, R79). -/
def Part.reportValid (p : Part) (k : ExchangeKind) (h : Nat) (r : Report) : Bool :=
  decide (r.seq = p.chain.seq) &&
  (match k with
   | .idle => true
   | .sewing =>
     decide (r.tag = (p.link h).expected.ordinal.map (· % 256)) && decide (r.down = (p.link h).expected.down))

/-! ## Exchanges (R74, R75) -/

/-- A sewing exchange moves the expectations on: it closes the span opened by the exchange before it and opens that of the
last commit frame (R79, R158). -/
def HeadLink.roll (l : HeadLink) : HeadLink := { l with expected := l.opened, opened := l.recorded }

/-- An exchange starts with its poll; one in progress is abandoned (R74, R75). -/
def Part.startExchange (p : Part) (k : ExchangeKind) : Part :=
  let q := (p.chain.seq + 1) % 256
  let c :=
    { p.chain with
      seq := q, lastKind := k, lastStart := p.now, exchange := some ⟨k, 1, p.par.headsFitted⟩
      out := p.chain.out ++ [.poll q k p.par.headsFitted] }
  match k with
  | .idle => { p with chain := c }
  | .sewing =>
    { p with
      chain := { c with
        closingVoid := p.chain.openVoid, openVoid := false, links := p.chain.links.map HeadLink.roll } }

/-! ## Commands (R76, R157) -/

/-- The selector order the next command to a head carries: MOVE from the grant until the request leaves MOVING, HALT while
the halt order is set, NONE otherwise (R134, R135). -/
def Part.selectorOrder (p : Part) (h : Nat) : SelectorOrder :=
  if (p.changeRequest h).state = .moving then .move (p.changeRequest h).target
  else if (p.selector h).halt then .halt
  else .none

/-- The sample orders for a head and an ordinal: the first four entries, in schedule order, whose heads are ALL or the head
and whose cadence divides the ordinal (R157). -/
def Part.sampleOrders (p : Part) (h o : Nat) : List SampleOrder :=
  ((p.mon.schedule.filter fun e => (decide (e.head = none) || decide (e.head = some h)) && decide (o % e.cadence = 0)).take
    4).map fun e => ⟨e.angle, e.use⟩

/-- The entry whose mode the next commands carry: the head entry of the queue, none while LOCKED (R54, R82). -/
def Part.commandEntry (p : Part) : Option Entry := if p.ctl.state = .locked then none else p.plan.queue.head?

/-- The needle command of a sewing exchange for a head (R76). -/
def Part.composeCommand (p : Part) (h : Nat) : Command :=
  match p.commandEntry with
  | none => Command.idle
  | some e =>
    let down := e.down && p.mayGoDown h
    { ordinal := some e.ordinal, down := down, trim := e.trim && p.mayTrim h
      orders := if down then p.sampleOrders h e.ordinal else [] }

/-- Whether the head's last report was valid: the acknowledge (R76). -/
def Part.acknowledged (p : Part) (h : Nat) : Bool := decide ((p.link h).outcome = some .valid)

/-- Send a head its command of the exchange (R76): in an idle one only the selector order and the acknowledge, and the
needle command the board holds stays. Its measured speed is 0 (DESIGN CHOICE, log entry 58). -/
def Part.sendCommand (k : ExchangeKind) (p : Part) (h : Nat) : Part :=
  let f (c : Command) : CommandFrame :=
    { head := h, seq := p.chain.seq, sewing := decide (k = .sewing), command := c, acknowledge := p.acknowledged h
      revised := false, speed := p.shaft.speed, order := p.selectorOrder h }
  match k with
  | .idle => p.putFrame (.command { f Command.idle with speed := 0 })
  | .sewing =>
    let c := p.composeCommand h
    (p.setLink h { p.link h with sent := some c, commanded := c }).putFrame (.command (f c))

/-- The command phase: each head of the exchange in ascending number; then the exchange ends (R75, R76). -/
def Part.commandPhase (p : Part) (x : Exchange) : Part :=
  let p' := p.forHeads ((List.range x.fitted).map (· + 1)) (Part.sendCommand x.kind)
  { p' with chain := { p'.chain with exchange := none } }

/-- A DOWN command that has lost its ground before the commit frame is revised to HELD, with the same tag, no trim and no
sample orders (R78). -/
def Part.revise (p : Part) (h : Nat) : Part :=
  match (p.link h).sent with
  | none => p
  | some c =>
    if c.down then
      let c' : Command := { ordinal := c.ordinal, down := false, trim := false, orders := [] }
      (p.setLink h { p.link h with sent := some c', commanded := c' }).putFrame
        (.command
          { head := h, seq := p.chain.seq, sewing := true, command := c', acknowledge := p.acknowledged h, revised := true
            speed := p.shaft.speed, order := p.selectorOrder h })
    else p

/-! ## The hold frames (R77, R79) -/

/-- What a head board must have latched at a commit frame: the tag of the command sent since the previous one, DOWN only if
DOWN was sent and the hold flag is clear; tag none and HELD without a command (R77). -/
def HeadLink.latch (l : HeadLink) (hold late : Bool) (needle : Option Nat) : Latch :=
  match l.sent with
  | none => { Latch.none with held := late }
  | some c =>
    { ordinal := c.ordinal, down := c.down && !hold, needle := if c.down && !hold then needle else none
      orders := c.orders, held := late }

/-- Note the span needle of a DOWN latch with its ordinal, in place of an earlier note of that ordinal (R158, log entry 44). A
commit frame drops no other note. The notes stand in the order in which they were made, an ordinal noted again last, and LOOKUP
SENSING lists them so (DESIGN CHOICE, log entry 44). -/
def noteSpan (noted : List (Nat × Nat)) (l : Latch) : List (Nat × Nat) :=
  match l.ordinal, l.down, l.needle with
  | some o, true, some n => (noted.filter fun e => decide (e.1 ≠ o)) ++ [(o, n)]
  | _, _, _ => noted

/-- The record of one head at a commit frame (R77, R158). -/
def Part.recordLatch (hold late : Bool) (p : Part) (h : Nat) : Part :=
  let l := p.link h
  let l' := { l with recorded := l.latch hold late (p.selector h).latched, sent := none }
  (p.setLink h l').setSensing h { p.sensing h with noted := noteSpan (p.sensing h).noted l'.recorded }

/-- A sewing exchange in progress ends when the commit frame goes out (R77); heads whose reply slots have not come are not counted and
nothing is told of their spans (DESIGN CHOICE, log entry 66). -/
def Chain.endSewing (c : Chain) : Chain :=
  match c.exchange with
  | some x => if x.kind = .sewing then { c with exchange := none } else c
  | none => c

/-- A commit frame: every head's tag and mode are recorded; `late` marks the span held for every head (R77, R79). -/
def Part.commitFrame (p : Part) (hold late : Bool) : Part :=
  let p' := p.forHeads allHeads (Part.recordLatch hold late)
  { p'.putFrame (.hold p.chain.seq .commit hold) with
    chain := (p'.putFrame (.hold p.chain.seq .commit hold)).chain.endSewing }

/-- The trim frame, sent at each delivery of the trim angle (R77); its hold flag is clear (log entry 15). -/
def Part.trimFrame (p : Part) : Part := p.putFrame (.hold p.chain.seq .trim false)

end Sys2Proof.Machine
end

