-- ==== Sys2Proof/Machine/Faults.lean ====
section
/-! DEFINITION. The latched sewing needle, thread records leaving READY, and the fault unit (chapter 9): parks, restores,
declarations. -/

namespace Sys2Proof.Machine

/-! ## Counts and the latched sewing needle -/

/-- The monitor resets a head's counts (R165). -/
def Part.resetCounts (p : Part) (h : Nat) : Part := p.setSensing h (p.sensing h).fresh

/-- The latched sewing needle of a head becomes `v`. When it changes, the head's counts start afresh (R165) and TENSION is no
longer live (R171); when it becomes absent, a DOWN command already sent is revised (R131). -/
def Part.latchNeedle (p : Part) (h : Nat) (v : Option Nat) : Part :=
  if (p.selector h).latched = v then p
  else
    let p1 := p.setSelector h { p.selector h with latched := v }
    let p2 := p1.setSensing h { (p1.sensing h).fresh with tensionLive := false }
    if v.isNone then p2.revise h else p2

/-- A selector comes to rest at a detent: AT_NEEDLE, and JAM is no longer live (R129, R171). -/
def Part.restSelector (p : Part) (h n : Nat) : Part :=
  p.setSelector h { p.selector h with state := .atNeedle n, jamLive := false }

/-- A selector leaves AT_NEEDLE: its state changes, its latched sewing needle becomes absent, and the head chain controller
is told (R131). -/
def Part.unrest (p : Part) (h : Nat) (st : SelectorState) : Part :=
  ((p.setSelector h { p.selector h with state := st }).latchNeedle h none).revise h

/-- Store a thread record; when the record of the head's latched sewing needle is no longer READY, a DOWN command already
sent is revised (R151). -/
def Part.putThread (p : Part) (h n : Nat) (t : Thread) : Part :=
  let p' := p.setThread h n t
  if (p.selector h).latched = some n ∧ t.state ≠ .ready then p'.revise h else p'

/-! ## Parks and restores (R175, R181) -/

/-- Whether a head is ACTIVE. -/
def Part.isActive (p : Part) (h : Nat) : Bool := decide ((p.head h).state = .active)

/-- Park an ACTIVE head: state and cause, the revised command, the counts, the case table; a head that is not ACTIVE stays as
it is (R175). -/
def Part.parkHead (p : Part) (h : Nat) (cause : ParkCause) (breakOrdinal : Option Nat) : Part :=
  if p.isActive h then
    (((p.setHead h { p.head h with state := .parked cause }).revise h).resetCounts h).parkTold h breakOrdinal
  else p

/-- The checks of a restore in order; the first that fails refuses it with STATE (R181). -/
def Part.mayRestore (p : Part) (h : Nat) : Bool :=
  (p.head h).state.isParked && (p.readyNeedle h).isSome && decide ((p.selector h).state ≠ .jammed) && !(p.live h).lost

/-- A taken restore: ACTIVE, the restore mark, the case table closes the head's OPEN case at c (R181, R192, R193). -/
def Part.restore (p : Part) (h : Nat) : Part :=
  let p1 := (p.setHead h { p.head h with state := .active }).markRestore h
  p1.closeOpenOf h (p.ctl.c.getD 0)

/-! ## Declarations (R173) -/

/-- The latch of a kind is set, and the live mark of the kinds that carry one (R171, R173). -/
def Part.latchFault (p : Part) (h : Nat) (k : FaultKind) : Part :=
  let p1 := p.setHead h { p.head h with latches := (p.head h).latches.put true k }
  match k with
  | .tension => p1.setSensing h { p1.sensing h with tensionLive := true }
  | .jam => p1.setSelector h { p1.selector h with jamLive := true }
  | _ => p1

/-- The park cause of a kind (R175). -/
def FaultKind.parkCause : FaultKind → ParkCause
  | .break_ => .break_
  | .tension => .tension
  | .bobbin => .bobbin
  | .lost => .lost
  | .jam => .jam

/-- The repaired head of a repair run in SEWING takes every fault as STOP; a BREAK sets the repair break ordinal, or keeps
the lower (R199). -/
def Part.repairFault (p : Part) (r : Repair) (k : FaultKind) (o : Option Nat) : Part :=
  let p1 :=
    match k, o with
    | .break_, some b =>
      { p with ctl := { p.ctl with repair := some { r with breakOrdinal := some (min b (r.breakOrdinal.getD b)) } } }
    | _, _ => p
  p1.askStop .fault

/-- The action the head's record holds for a kind: STOP by R174, PARK by R175, NOTE by R176. `silent`: the STOP is carried by
the change's result (R174). -/
def Part.actOn (p : Part) (h : Nat) (k : FaultKind) (o : Option Nat) (silent : Bool) : Part :=
  match (p.head h).actions.of k with
  | .stop => if silent then p else p.askStop .fault
  | .park => p.parkHead h k.parkCause (if k = .break_ then o else none)
  | .note => p

/-- The action of a declaration: none for a DISABLED head, the repair run's for the repaired head in SEWING, the record's for
every other head (R173, step 4). -/
def Part.takeAction (p : Part) (h : Nat) (k : FaultKind) (o : Option Nat) (silent : Bool) : Part :=
  if (p.head h).state = .disabled then p
  else
    match p.repairSewing with
    | some r => if r.head = h then p.repairFault r k o else p.actOn h k o silent
    | none => p.actOn h k o silent

/-- A declaration of a kind for a head, applied whole: latch and live status, the last break ordinal, the FAULT notice, the
action (R173). -/
def Part.declare (p : Part) (h : Nat) (k : FaultKind) (o : Option Nat) (silent : Bool) : Part :=
  let p1 := p.latchFault h k
  let p2 := if k = .break_ then p1.setHead h { p1.head h with lastBreak := o } else p1
  (p2.notice .fault).takeAction h k o silent

end Sys2Proof.Machine
end

