-- ==== Sys2Proof/Machine/Maps.lean ====
section
/-! DEFINITION. The needle map unit (chapter 6): reading and amending maps, strobes and their record, the strobe step, and
AUTOMAP. -/

namespace Sys2Proof.Machine

/-- The unit that serves a head in a map mode (R110, R111). -/
def MapMode.unitOf : MapMode → Nat → Nat
  | .head, h => h
  | .bank, h => (h + 4) / 5

/-- The entry of a unit and a slot. -/
def NeedleMap.entry (m : NeedleMap) (unit slot : Nat) : Option Nat := nth1 (nth1 m [] unit) none slot

/-- The active map's entry of a head and a slot (R111). -/
def Part.mapEntry (p : Part) (h slot : Nat) : Option Nat := p.maps.active.entry (p.maps.mode.unitOf h) slot

/-- A staged map, and its loaded flag. -/
def Maps.staged (m : Maps) : Staged → NeedleMap
  | .a => m.a
  | .b => m.b
def Maps.loaded (m : Maps) : Staged → Bool
  | .a => m.loadedA
  | .b => m.loadedB

/-- Store a staged map and set its loaded flag (R112). -/
def Maps.load (m : Maps) (x : Staged) (t : NeedleMap) : Maps :=
  match x with
  | .a => { m with a := t, loadedA := true }
  | .b => { m with b := t, loadedB := true }

/-- The origin a strobe of a staged map gives the active map (R112). -/
def Staged.origin : Staged → MapOrigin
  | .a => .a
  | .b => .b

/-- Write an outcome into the last strobe record, with the controller state in which it was reached (R116). -/
def Part.recordStrobe (p : Part) (src : StrobeSource) (x : Staged) (o : StrobeOutcome) : Part :=
  { p with maps := { p.maps with last := some ⟨src, x, o, p.ctl.state⟩ } }

/-- Apply a strobe: the staged map is copied whole into the active map, or the strobe is ignored when it is not loaded
(R116). -/
def Part.applyStrobe (p : Part) (src : StrobeSource) (x : Staged) : Part :=
  if p.maps.loaded x then
    ({ p with maps := { p.maps with active := p.maps.staged x, origin := x.origin } } : Part).recordStrobe src x .applied
  else p.recordStrobe src x .ignored

/-- Discard a held strobe, recording it (R119, R120). -/
def Part.discardHeld (p : Part) : Part :=
  match p.maps.held with
  | some s => ({ p with maps := { p.maps with held := none } } : Part).recordStrobe s.source s.map .discarded
  | none => p

/-- A strobe taken from the request or the line: held in CHANGING, applied at once otherwise, in place of a held one
(R116, R119, R120). An ignored strobe leaves a held one held (log entry 45). -/
def Part.takeStrobe (p : Part) (src : StrobeSource) (x : Staged) : Part :=
  if p.ctl.state = .changing then
    let p' := p.discardHeld
    ({ p' with maps := { p'.maps with held := some ⟨src, x⟩ } } : Part).recordStrobe src x .held
  else if p.maps.loaded x then p.discardHeld.applyStrobe src x
  else p.recordStrobe src x .ignored

/-- Apply the held strobe, if there is one (R119, R121). -/
def Part.applyHeld (p : Part) : Part :=
  match p.maps.held with
  | some s => ({ p with maps := { p.maps with held := none } } : Part).applyStrobe s.source s.map
  | none => p

/-- The staged map that the MAPSEL level selects (R118). -/
def selectedMap (mapsel : Bool) : Staged := if mapsel then .b else .a

/-- The strobe step of a needle check (R121). -/
def Part.strobeStep (p : Part) : Part :=
  match p.maps.held with
  | some _ => p.applyHeld
  | none =>
    match p.par.autoStrobe with
    | .off => p
    | .a => p.applyStrobe .auto .a
    | .b => p.applyStrobe .auto .b
    | .line => p.applyStrobe .auto (selectedMap p.lines.mapsel)

/-- Write pairs into one unit of a map (R113). -/
def writePairs (row : List (Option Nat)) (pairs : List (Nat × Option Nat)) : List (Option Nat) :=
  pairs.foldl (fun r e => set1 r e.1 e.2) row

/-- Write pairs into a unit of a map, or into every unit for ALL, coded 0 (R113). -/
def NeedleMap.amend (m : NeedleMap) (unit : Nat) (pairs : List (Nat × Option Nat)) : NeedleMap :=
  if unit = 0 then m.map fun row => writePairs row pairs else set1 m unit (writePairs (nth1 m [] unit) pairs)

/-- The default maps of a mode: active default, staged maps absent and not loaded (R115, R128). -/
def Maps.layout (m : Maps) (mode : MapMode) : Maps :=
  { m with
    mode := mode, active := NeedleMap.default mode, origin := .default, a := NeedleMap.absent mode
    b := NeedleMap.absent mode, loadedA := false, loadedB := false }

/-! ## AUTOMAP (R123 to R126) -/

/-- The heads a unit considers: fitted and enabled (R124, R125). -/
def Part.unitHeads (p : Part) (unit : Nat) : List Nat :=
  p.fittedHeads.filter fun h => decide (p.maps.mode.unitOf h = unit) && (p.head h).enable

/-- The lowest needle that carries a colour code ready on every head considered (R124, R125). -/
def Part.readyOn (p : Part) (heads : List Nat) (colour : Nat) : Option Nat :=
  ((List.range Config.needleCount).map (· + 1)).find? fun n =>
    heads.all fun h => decide ((p.thread h n).colour = some colour ∧ (p.thread h n).state = .ready)

/-- What AUTOMAP finds for a unit and a slot: absent and not counted, or counted with the needle found. -/
def Part.automapEntry (p : Part) (x : Design) (unit slot : Nat) : Option (Option Nat) :=
  match nth1 x.slots none slot with
  | none => none
  | some colour => if (p.unitHeads unit).isEmpty then none else some (p.readyOn (p.unitHeads unit) colour)

/-- The units of the present mode, and the slots. -/
def Part.units (p : Part) : List Nat := (List.range p.maps.mode.units).map (· + 1)
def allSlots : List Nat := (List.range Config.slotCount).map (· + 1)

/-- The map AUTOMAP builds for a design (R123). -/
def Part.automapTable (p : Part) (x : Design) : NeedleMap :=
  p.units.map fun u => allSlots.map fun s => (p.automapEntry x u s).getD none

/-- The numbers of resolved and unresolved entries, and the slots with an unresolved one in ascending order (R126). -/
def Part.automapCounts (p : Part) (x : Design) : Nat × Nat × List Nat :=
  let found := p.units.flatMap fun u => allSlots.filterMap fun s => p.automapEntry x u s
  (found.countP Option.isSome, found.countP Option.isNone,
    allSlots.filter fun s => p.units.any fun u => decide (p.automapEntry x u s = some none))

end Sys2Proof.Machine
end

