-- ==== Sys2Proof/Machine/Selectors.lean ====
section
/-! DEFINITION. The selector arbiter (chapter 7): drive slots and grants, the needle check, the change record, the ends of
requests, lock and restart. What the end of a change sets off stands in Control.lean. -/

namespace Sys2Proof.Machine

/-! ## Requests and drive slots (R132 to R134) -/

/-- PENDING or MOVING. -/
def RequestState.inFlight : RequestState → Bool
  | .pending | .moving => true
  | _ => false

/-- A request is added, PENDING with all flags clear; for a head whose request is in flight none is added (R132). -/
def Part.addRequest (p : Part) (h target : Nat) (origin : RequestOrigin) (changeNo : Option Nat) : Part :=
  if (p.changeRequest h).state.inFlight then p
  else
    p.setChangeRequest h
      { target := target, origin := origin, state := .pending, occurred := false, cancelAsked := false
        cancelFinished := false, changeNo := changeNo, source := none, expected := none, deadline := none }

/-- The free drive slot a grant takes, the lowest-numbered one (R133; DESIGN CHOICE, log entry 63). -/
def Part.freeSlot (p : Part) : Option Nat := (List.range Config.driveSlots).find? fun i => p.arb.slots.getD i none == none

/-- The PENDING request that a free slot goes to: DEMAND before MANUAL, then the lowest head number (R133). -/
def Part.nextPending (p : Part) : Option Nat :=
  let waits (g : RequestOrigin) : Option Nat :=
    allHeads.find? fun h => decide ((p.changeRequest h).state = .pending ∧ (p.changeRequest h).origin = g)
  match waits .demand with
  | some h => some h
  | none => waits .manual

/-- The detent a selector rests at. -/
def SelectorState.detent : SelectorState → Option Nat
  | .atNeedle n => some n
  | _ => none

/-- The positions a move travels: |target − from|, and 15 from UNSURE (R134). -/
def travelPositions (source : Option Nat) (target : Nat) : Nat :=
  match source with
  | some n => ((target : Int) - (n : Int)).natAbs
  | none => 15

/-- A grant: the request becomes MOVING with its deadline, the selector MOVING without a latched needle, the slot is taken
(R134). -/
def Part.grantTo (p : Part) (i h : Nat) : Part :=
  let q := p.changeRequest h
  let source := (p.selector h).state.detent
  let expected := p.par.selSettle + travelPositions source q.target * p.par.selStep
  let p1 := p.setChangeRequest h
    { q with
      state := .moving, source := source, expected := some expected
      deadline := some (p.now + (expected + p.par.selGrace) * 1000) }
  ({ p1 with arb := { p1.arb with slots := p1.arb.slots.set i (some h) } } : Part).unrest h .moving

/-- One grant, when a slot is free, a request is PENDING and the controller is not LOCKED (R133). -/
def Part.grantOne (p : Part) : Part :=
  if p.ctl.state = .locked then p
  else
    match p.freeSlot, p.nextPending with
    | some i, some h => p.grantTo i h
    | _, _ => p

/-- Grants while both a free slot and a PENDING request remain: six slots, so six at most (R133). -/
def Part.grants (p : Part) : Part := iterate Part.grantOne Config.driveSlots p

/-- Free the slot a head holds (R133). -/
def Part.releaseSlot (p : Part) (h : Nat) : Part :=
  { p with arb := { p.arb with slots := p.arb.slots.map fun s => if s = some h then none else s } }

/-! ## The needle check (R138 to R141) -/

/-- The outcomes of R138. -/
inductive CheckOutcome where
  | sitOut
  | wait
  | park (cause : ParkCause)
  | latch (n : Nat)
  | request (n : Nat)
  deriving DecidableEq, Repr

/-- The park cause of a target needle whose thread is not READY (R138, row 3). -/
def ThreadState.parkCause : ThreadState → ParkCause
  | .broken => .break_
  | _ => .operator

/-- Rows 3 to 6 of R138 for a target needle. -/
def Part.checkTarget (p : Part) (h n : Nat) : CheckOutcome :=
  if (p.thread h n).state ≠ .ready then .park (p.thread h n).state.parkCause
  else
    match (p.selector h).state with
    | .atNeedle k => if k = n then .latch n else .request n
    | .jammed | .unsure => .park .jam
    | .moving => .wait

/-- The outcome of R138 for an ACTIVE head and a slot. -/
def Part.checkOutcome (p : Part) (h slot : Nat) : CheckOutcome :=
  match p.mapEntry h slot with
  | none => .sitOut
  | some n => if (p.changeRequest h).state.inFlight then .wait else p.checkTarget h n

/-- Whether an outcome is work for a START (R140). -/
def CheckOutcome.isWork : CheckOutcome → Bool
  | .wait | .park _ | .request _ => true
  | .sitOut | .latch _ => false

/-- How the check takes a head (R138, R141): passed over, a PARKED head, or an outcome. -/
inductive CheckTurn where
  | passed
  | parkedHead
  | outcome (o : CheckOutcome)
  deriving DecidableEq, Repr

/-- The turn of a head in the check of a block and slot (R138). -/
def Part.checkTurn (p : Part) (block slot h : Nat) : CheckTurn :=
  match (p.head h).state with
  | .disabled => .passed
  | .parked _ => .parkedHead
  | .active => if (p.selector h).skip = some block then .passed else .outcome (p.checkOutcome h slot)

/-- The latched needle of a PARKED head is kept fit for the slot (R141). -/
def Part.fitParked (p : Part) (slot h : Nat) : Part :=
  match p.mapEntry h slot with
  | none => p.latchNeedle h none
  | some n => p.latchNeedle h (if (p.selector h).state = .atNeedle n then some n else none)

/-- Add an outcome to the counts of the change record (R142). A head evaluated again while it waits stays listed once. -/
def ChangeRecord.count (c : ChangeRecord) (h : Nat) : CheckOutcome → ChangeRecord
  | .sitOut => { c with satOut := c.satOut + 1 }
  | .wait => { c with waiting := if h ∈ c.waiting then c.waiting else c.waiting ++ [h] }
  | .park _ => { c with parked := c.parked + 1 }
  | .latch _ => { c with latched := c.latched + 1 }
  | .request _ => { c with added := c.added + 1 }

/-- The change record, when it is open. -/
def Part.openChange (p : Part) : Option ChangeRecord :=
  match p.arb.change with
  | some c => if c.isOpen && decide (p.ctl.state = .changing) then some c else none
  | none => none

/-- Count an outcome in the open change. -/
def Part.countOutcome (p : Part) (h : Nat) (o : CheckOutcome) : Part :=
  match p.openChange with
  | some c => { p with arb := { p.arb with change := some (c.count h o) } }
  | none => p

/-- The effect of an outcome on a head (R138). -/
def Part.applyOutcome (p : Part) (h : Nat) (o : CheckOutcome) : Part :=
  match o with
  | .sitOut => p.latchNeedle h none
  | .wait => p.latchNeedle h none
  | .park cause => (p.latchNeedle h none).parkHead h cause none
  | .latch n => p.latchNeedle h (some n)
  | .request n => (p.latchNeedle h none).addRequest h n .demand (p.openChange.map ChangeRecord.number)

/-- The check of one head in the open change, applied and counted (R138, R141). The counts of R142 are those of the outcomes of R138:
a PARKED head that R141 latches or clears counts neither as latched nor as sat out (DESIGN CHOICE, log entry 68). -/
def Part.checkHead (block slot : Nat) (p : Part) (h : Nat) : Part :=
  match p.checkTurn block slot h with
  | .passed => p
  | .parkedHead => p.fitParked slot h
  | .outcome o => (p.applyOutcome h o).countOutcome h o

/-- A colour-skip that is set for a block other than the block of the check is cleared (R139). -/
def Selector.clearSkip (block : Nat) (s : Selector) : Selector :=
  { s with skip := if s.skip = some block then s.skip else none }

/-- The opening of every check: the strobe step, then the clearing of colour-skips (R121, R139). -/
def Part.checkOpening (p : Part) (block : Nat) : Part :=
  let p1 := p.strobeStep
  { p1 with arb := { p1.arb with selectors := p1.arb.selectors.map (Selector.clearSkip block) } }

/-- Every colour-skip is cleared (R139). -/
def Part.clearSkips (p : Part) : Part :=
  { p with arb := { p.arb with selectors := p.arb.selectors.map fun s => { s with skip := none } } }

/-- Whether the trial finds work for a head (R140). -/
def Part.hasWork (p : Part) (block slot h : Nat) : Bool :=
  match p.checkTurn block slot h with
  | .outcome o => o.isWork
  | _ => false

/-- The trial check of a START in READY: the part after it, and whether it found work. With work nothing is applied but the
opening; without, the latching outcomes are (R140). -/
def Part.trialCheck (p : Part) (block slot : Nat) : Part × Bool :=
  let p1 := p.checkOpening block
  if p1.fittedHeads.any (p1.hasWork block slot) then (p1, true)
  else (p1.forHeads p1.fittedHeads (Part.checkHead block slot), false)

/-- The change record opens, with the next change number (R142). -/
def Part.newChange (p : Part) (kind : ChangeKind) (block slot : Nat) : Part :=
  { p with
    arb := { p.arb with
      change := some
        { number := p.arb.nextNumber, block := block, slot := slot, kind := kind, jamStop := false, waiting := [], added := 0
          latched := 0, satOut := 0, parked := 0, isOpen := true }
      nextNumber := (p.arb.nextNumber + 1) % 65536 } }

/-- The full check on entry into CHANGING: opening, every outcome in ascending head number, then the grants (R138, R142). -/
def Part.fullCheck (p : Part) (block slot : Nat) : Part :=
  let p1 := p.checkOpening block
  (p1.forHeads p1.fittedHeads (Part.checkHead block slot)).grants

/-! ## The end of a request (R132, R135, R143) -/

/-- A request reaches an end state: cancel-finished when it was cancelled or cancel asked is set, the deadline is dropped
(R132, R135, R137), at an end other than the arrival too (DESIGN CHOICE, log entry 64). -/
def Part.endRequest (p : Part) (h : Nat) (st : RequestState) (occurred : Bool) : Part :=
  let q := p.changeRequest h
  p.setChangeRequest h
    { q with
      state := st
      occurred := occurred
      cancelFinished := q.cancelAsked || decide (st = .cancelled)
      deadline := none }

/-- A head waiting in the open change is taken off the list and evaluated again (R143). -/
def Part.examineWaiting (p : Part) (h : Nat) : Part :=
  match p.openChange with
  | none => p
  | some c =>
    if h ∈ c.waiting then
      (({ p with arb := { p.arb with change := some { c with waiting := c.waiting.filter fun k => decide (k ≠ h) } } }
        : Part).checkHead c.block c.slot h).grants
    else p

/-- A MANUAL request that has ended raises SELECT_DONE (R132). -/
def Part.noticeManual (p : Part) (h : Nat) : Part :=
  if (p.changeRequest h).origin = .manual then p.notice .selectDone else p

/-- Whether a head's request belongs to the open change. -/
def Part.ofOpenChange (p : Part) (h : Nat) : Bool :=
  match p.openChange with
  | some c => decide ((p.changeRequest h).origin = .demand ∧ (p.changeRequest h).changeNo = some c.number)
  | none => false

/-- Set the JAM stop flag of the open change (R144). -/
def Part.setJamStop (p : Part) : Part :=
  match p.openChange with
  | some c => { p with arb := { p.arb with change := some { c with jamStop := true } } }
  | none => p

/-- No request of the open change is in flight and no head waits (R144). -/
def Part.changeDone (p : Part) (c : ChangeRecord) : Bool :=
  c.waiting.isEmpty &&
    p.arb.requests.all fun q =>
      !(q.state.inFlight && decide (q.origin = .demand) && decide (q.changeNo = some c.number))

/-! ## Lock and restart (R149) -/

/-- A MOVING selector at a lock or a restart: UNSURE, halt order set, no latched needle (R149). -/
def Part.cutSelector (p : Part) (h : Nat) : Part :=
  if (p.selector h).state = .moving then
    let p1 := p.unrest h .unsure
    p1.setSelector h { p1.selector h with halt := true }
  else p

/-- A request in flight at a lock ends FAILED(ABORT), with SELECT_DONE for a MANUAL one (R149). -/
def Part.abortRequest (p : Part) (h : Nat) : Part :=
  if (p.changeRequest h).state.inFlight then
    (p.endRequest h (.failed .abort) (p.changeRequest h).occurred).noticeManual h
  else p

/-- The arbiter at a LOCK (R149). -/
def Part.lockArbiter (p : Part) : Part :=
  let p1 := p.forHeads allHeads fun q h => (q.cutSelector h).abortRequest h
  { p1 with arb := { p1.arb with slots := p1.arb.slots.map fun _ => none } }

/-- The arbiter at a RESTART: requests NONE, slots free, skips clear, the open change closed without a report (R149). -/
def Part.restartArbiter (p : Part) : Part :=
  let p1 := (p.forHeads allHeads Part.cutSelector).clearSkips
  { p1 with
    arb := { p1.arb with
      requests := p1.arb.requests.map fun _ => ChangeRequest.reset
      slots := p1.arb.slots.map fun _ => none
      change := p1.arb.change.map fun c => { c with isOpen := false } } }

end Sys2Proof.Machine
end

