-- ==== Sys2Proof/Machine/Control.lean ====
section
/-! DEFINITION. The run controller's own transitions (chapter 5) and the repair run (chapter 10): lock, entry into READY,
UNREADY, STARTING and CHANGING, the end of a change, travel, the phases of a repair, CLEAR and RESTART. -/

namespace Sys2Proof.Machine

/-! ## Entries (R46, R70, R85) -/

/-- Entry into READY with a stop cause: a flush, and nothing of a stop, change or travel left over (R85, R99). -/
def Part.enterReady (p : Part) (cause : Cause) : Part :=
  (({ p.flush with
      ctl := { p.ctl with
        cause := cause, phase := none, origin := none, pending := none, change := none, travel := none } } : Part)).enter
    .ready

/-- Entry into READY, with the STOPPED notice (R99 to R103). -/
def Part.stopIn (p : Part) (cause : Cause) : Part := (p.enterReady cause).notice .stopped

/-- Entry into UNREADY: a flush, the drive DISABLED, stop cause NONE (R46, R70, R85). -/
def Part.enterUnready (p : Part) : Part :=
  (({ p.flush.disableDrive with
      ctl := { p.ctl with
        cause := .none, phase := none, origin := none, pending := none, change := none, travel := none } } : Part)).enter
    .unready

/-- Entry into TRAVERSING with a travel: a flush (R46, R84). -/
def Part.enterTraversing (p : Part) (t : Travel) : Part :=
  (({ p.flush with ctl := { p.ctl with travel := some t } } : Part)).enter .traversing

/-- A travel without a stop asked for. -/
def Travel.plain (k : TravelKind) (t : TravelTarget) : Travel := ⟨k, t, false, none⟩

/-- The current ordinal, 0 while absent. -/
def Part.cur (p : Part) : Nat := p.ctl.c.getD 0

/-- Set the current ordinal. -/
def Part.setCur (p : Part) (c : Nat) : Part := { p with ctl := { p.ctl with c := some c } }

/-! ## Lock (R104) -/

/-- The locked-from record of a lock taken now; a lock during the leg of a CLEAR keeps the one it had (R104, R106). -/
def Part.lockRecord (p : Part) : Option LockedFrom :=
  if p.ctl.state = .traversing ∧ p.travelKind = some .clear then p.ctl.lockedFrom
  else some ⟨p.ctl.state, p.ctl.phase, p.ctl.travel⟩

/-- The span open at a lock is void, so that an exchange while the shaft coasts does not judge it (R168); a span already closed, its
exchange in the report phase, is judged (DEDUCED, log entry 54). -/
def Part.voidOpen (p : Part) : Part := { p with chain := { p.chain with openVoid := true } }

/-- A lock cause locks the controller; in LOCKED it changes nothing; v_set is kept (R104, R105, R39, R64, R82, R149, R168). -/
def Part.lock (p : Part) (cause : LockCause) : Part :=
  if p.ctl.state = .locked then p
  else
    let p1 : Part :=
      { p with
        ctl := { p.ctl with
          state := .locked, lockCause := some cause, lockedFrom := p.lockRecord, phase := none, pending := none
          origin := none, armed := false, travel := none, change := none } }
    ((((p1.flush.disableDrive.lockFrame).commitFrame true false).voidOpen).lockArbiter).notice .stopped

/-- The run order; a low DRV_FLT is a drive fault, which locks (R70, R91). -/
def Part.orderRun (p : Part) : Part := if p.runOrder.2 then p.runOrder.1.lock .drive else p.runOrder.1

/-! ## Starting and changing (R91, R100, R142, R144) -/

/-- Entry into STARTING: the fill from (c, 1) and the first demand, the cases of PARKED heads, the run order (R91, R188). -/
def Part.startSewing (p : Part) : Part :=
  let p1 : Part := (({ p with ctl := { p.ctl with phase := none, change := none, travel := none } } : Part)).enter .starting
  ((p1.beginFill p1.cur).openForParked).orderRun

/-- The end of a change is reported: the slot is the change slot, a held strobe is applied in the same step, and the
controller goes on by the table of R100 (R119, R144). -/
def Part.finishChange (p : Part) (c : ChangeRecord) : Part :=
  let p1 := ({ p with arb := { p.arb with change := some { c with isOpen := false } } } : Part).applyHeld
  let kind := (p.ctl.change.map ChangeEntry.kind).getD .start
  let p2 : Part := { p1 with ctl := { p1.ctl with slot := some c.slot, change := none } }
  if c.jamStop then p2.stopIn .jam
  else
    match p2.ctl.pending with
    | some k => p2.stopIn k.cause
    | none => if kind = .start ∨ p.par.continueAfterChange = true then p2.startSewing else p2.stopIn .colour

/-- The change ends at the first moment at which nothing of it is in flight and no head waits (R144). -/
def Part.checkChange (p : Part) : Part :=
  match p.openChange with
  | some c => if p.changeDone c then p.finishChange c else p
  | none => p

/-- The colour block containing ordinal c. -/
def Part.blockAtCur (p : Part) : Option Block := p.activeDesign.bind fun x => x.blockOf p.cur

/-- Entry into CHANGING: the change record opens, the full check runs, and the change may end at once (R100, R142, R144). -/
def Part.enterChanging (p : Part) (kind : ChangeKind) (slot : Nat) : Part :=
  let block := (p.blockAtCur.map Block.number).getD 0
  let p1 : Part :=
    (({ p with
        ctl := { p.ctl with phase := none, origin := none, pending := none, change := some ⟨kind, slot⟩ } } : Part)).enter
      .changing
  ((p1.newChange kind block slot).fullCheck block slot).checkChange

/-- START as it is taken (R89): an owed change, work found by the trial check, or STARTING. -/
def Part.takeStart (p : Part) : Part :=
  match p.blockAtCur with
  | none => p
  | some b =>
    if p.changeDue then p.enterChanging .start b.slot
    else
      let slot := p.ctl.slot.getD b.slot
      let r := p.trialCheck b.number slot
      if r.2 then r.1.enterChanging .start slot else r.1.startSewing

/-! ## The needle-up report that ends a stop (R99) -/

/-- Armed is cleared at the needle-up report when start_repeat is no (R90). -/
def Part.disarm (p : Part) : Part :=
  { p with ctl := { p.ctl with armed := p.ctl.armed && p.par.startRepeat } }

/-- The needle-up report in SETTLING: the next state by the table of R99. -/
def Part.endStop (p0 : Part) : Part :=
  let p := p0.disarm
  match p.ctl.origin, p.ctl.pending with
  | some .designEnd, _ => p.stopIn .designEnd
  | _, some k => p.stopIn k.cause
  | some .colour, none =>
    match p.blockAtCur with
    | some b => p.enterChanging .colour b.slot
    | none => p.stopIn .colour
  | some .halt, none => p.stopIn .halt
  | some .line, none => p.stopIn .line
  | _, none => p.stopIn .count

/-! ## Travel (R101, R102) -/

/-- The leg of one ordinal step: P moves by the displacement of the ordinal passed, and the leg runs to its committed
position (R32, R102). -/
def Part.startStep (p : Part) (forward : Bool) : Part :=
  let o := if forward then p.cur else p.cur - 1
  let d := p.idealStep (((p.serve o).map Served.d).getD Vec.zero)
  let v := if forward then p.pos.pOrZero.add d else p.pos.pOrZero.sub d
  ({ p with pos := { p.pos with p := some v } } : Part).startLeg (p.committed v)

/-- A leg of BACK or FWD completes: c moves, and the travel ends or its next leg starts (R102). -/
def Part.stepDone (p : Part) (t : Travel) (target : Nat) (forward : Bool) : Part :=
  let p1 := p.setCur (if forward then p.cur + 1 else p.cur - 1)
  if p1.cur = target ∨ t.stopAsked = true then p1.stopIn (t.cause.getD p.ctl.cause) else p1.startStep forward

/-! ## The repair run (R196 to R202) -/

/-- Store the repair context. -/
def Part.setRepair (p : Part) (r : Repair) : Part := { p with ctl := { p.ctl with repair := some r } }

/-- HOMEBOUND with an end cause: one net leg to position(c − 1) of the return ordinal (R201). -/
def Part.goHome (p : Part) (r : Repair) (cause : Cause) : Part :=
  (p.setRepair { r with phase := .homebound, endCause := some cause }).startNetLeg r.ret

/-- The repair ends without sewing: the case is CLOSED as it was (R197, R198). -/
def Part.endUnsewn (p : Part) (r : Repair) (cause : Cause) : Part := (p.releaseCase r.caseNo).goHome r cause

/-- Entry into SEWING with a target needle: the stop PENDING at the case's last ordinal, the fill from its first, the run
order (R199). -/
def Part.repairSew (p : Part) (r : Repair) (n : Nat) : Part :=
  match p.caseAt r.caseNo with
  | none => p
  | some q =>
    let p1 := p.setRepair { r with phase := .sewing, target := some n, stopReached := false }
    (({ p1 with plan := { p1.plan with stop := .pending (q.last.getD q.first) true .repair } } : Part).beginFill
      q.first).orderRun

/-- The outcome of PREPARE: a needle, or the end cause of a run that ends without sewing; a pending cause or a repaired head
no longer ACTIVE ends it too (R198), also one parked already in OUTBOUND, whatever its outcome (DESIGN CHOICE, log entry 69). -/
def Part.prepared (p : Part) (r : Repair) (n : Except Cause Nat) : Part :=
  match p.ctl.pending with
  | some k => p.endUnsewn r k.cause
  | none =>
    if p.isActive r.head then
      match n with
      | .ok k => p.repairSew r k
      | .error c => p.endUnsewn r c
    else p.endUnsewn r .fault

/-- Entry into PREPARE: the arbiter evaluates the repaired head by rows 1 and 3 to 6 of R138 (R148, R198). -/
def Part.prepare (p0 : Part) (r0 : Repair) : Part :=
  let r := { r0 with phase := .prepare }
  let p := p0.setRepair r
  let slot := ((p.caseAt r.caseNo).map Case.slot).getD 0
  match p.mapEntry r.head slot with
  | none => (p.latchNeedle r.head none).prepared r (.error .stop)
  | some n =>
    match p.checkTarget r.head n with
    | .latch k => (p.latchNeedle r.head (some k)).prepared r (.ok k)
    | .request k => ((p.latchNeedle r.head none).addRequest r.head k .demand none).grants
    | _ => p.prepared r (.error .fault)

/-- OUTBOUND is complete (R197). -/
def Part.outboundDone (p : Part) (r : Repair) : Part :=
  match p.ctl.pending with
  | some k => p.endUnsewn r k.cause
  | none => p.prepare r

/-- HOMEBOUND is complete: READY with the end cause, replaced by a pending one (R201, R202). -/
def Part.homeboundDone (p : Part) (r : Repair) : Part :=
  let cause := match p.ctl.pending with
    | some k => k.cause
    | none => r.endCause.getD .repairDone
  ({ p with ctl := { p.ctl with repair := none } } : Part).stopIn cause

/-- The needle-up report at the end of SEWING: the case is settled and the run goes HOMEBOUND (R200). -/
def Part.repairStopped (p : Part) (r : Repair) : Part :=
  let p1 := (p.settleCase r.caseNo r.breakOrdinal).disarm
  p1.goHome r (match p.ctl.pending with
    | some k => k.cause
    | none => .repairDone)

/-- A taken REPAIR of case `k`: the context, OUTBOUND and its leg, which completes at once when the frame is there (R107,
R196, R197). The other heads are repair-held, so DOWN commands already sent to them are revised (R78). -/
def Part.takeRepair (p : Part) (k : Nat) (q : Case) : Part :=
  let r : Repair :=
    { caseNo := k, head := q.head, ret := p.cur, phase := .outbound, target := none, breakOrdinal := none
      endCause := none, stopReached := false }
  let p1 := p.setCase k (some { q with state := .repairing, progress := some q.first })
  let p2 : Part :=
    (({ p1.flush with ctl := { p1.ctl with cause := .none, repair := some r } } : Part)).enter .repairing
  let p3 := (p2.forHeads (allHeads.filter fun h => decide (h ≠ q.head)) Part.revise).startNetLeg q.first
  match p3.pos.move with
  | some m =>
    if m.target = p3.pos.n then ({ p3 with pos := p3.pos.arrive m.target } : Part).outboundDone r else p3
  | none => p3

/-! ## The ends of change requests (R132, R143, R148) -/

/-- A request has ended and its slot has been freed: it is examined by the rules that own it (R132): SELECT_DONE, PREPARE of
the repair run, the waiting head and the end of the change. -/
def Part.examineEnd (p0 : Part) (h : Nat) : Part :=
  let p := p0.noticeManual h
  let q := p.changeRequest h
  match p.repairing with
  | some r =>
    if r.phase = .prepare ∧ r.head = h ∧ q.origin = .demand then
      p.prepared r (if q.state = .done then .ok q.target else .error .fault)
    else p
  | none => (p.examineWaiting h).checkChange

/-- A request in flight ends: state, slot, grants (R132, R133). -/
def Part.finishRequest (p : Part) (h : Nat) (st : RequestState) (occurred : Bool) : Part :=
  ((p.endRequest h st occurred).releaseSlot h).grants

/-- The arrival of a MOVING request (R135). -/
def Part.arrival (p : Part) (h : Nat) : Part :=
  let q := p.changeRequest h
  let p1 := (p.restSelector h q.target).latchNeedle h (some q.target)
  (p1.finishRequest h (if q.cancelAsked then .cancelled else .done) true).examineEnd h

/-- Set the halt order of a head's selector. -/
def Part.setHalt (p : Part) (h : Nat) (b : Bool) : Part := p.setSelector h { p.selector h with halt := b }

/-- The deadline of a MOVING request expires: FAILED(JAM), JAMMED, the halt order, JAM raised; the JAM stop flag when it
belongs to the open change and the head's JAM action is STOP (R135, R144, R174). -/
def Part.deadline (p : Part) (h : Nat) : Part :=
  let owned := p.ofOpenChange h
  let p1 := ((p.unrest h .jammed).setHalt h true).finishRequest h (.failed .jam) (p.changeRequest h).occurred
  let p2 := if owned && decide ((p.head h).actions.jam = .stop) then p1.setJamStop else p1
  (p2.declare h .jam none owned).examineEnd h

/-- LOST raised for a head, to the arbiter and to the fault unit: a MOVING request fails with kind LOST (R81, R136, R177). -/
def Part.raiseLost (p : Part) (h : Nat) : Part :=
  if (p.changeRequest h).state = .moving then
    let p1 := ((p.unrest h .unsure).setHalt h true).finishRequest h (.failed .lost) (p.changeRequest h).occurred
    (p1.declare h .lost none false).examineEnd h
  else p.declare h .lost none false

/-- A disturbance: UNSURE, no latched needle, JAM raised unless the head is DISABLED (R130). -/
def Part.disturb (p : Part) (h : Nat) : Part :=
  let p1 := p.unrest h .unsure
  if (p.head h).state = .disabled then p1 else p1.declare h .jam none false

/-- A reported position reaches the arbiter (R129, R130, R135). The halt order is cleared by a report with the moving flag
clear. -/
def Part.reportPosition (p0 : Part) (h : Nat) (detent : Option Nat) (moving : Bool) : Part :=
  let s := p0.selector h
  let p := p0.setSelector h { s with reported := some ⟨detent, moving⟩, halt := s.halt && moving }
  match s.state, detent, moving with
  | .moving, some n, false => if n = (p.changeRequest h).target then p.arrival h else p
  | .unsure, some n, false => p.restSelector h n
  | .atNeedle k, some n, false => if n = k then p else p.disturb h
  | .atNeedle _, _, _ => p.disturb h
  | _, _, _ => p

/-- CANCEL CHANGE takes effect on a head's request (R137): the part and the status. A cancelled DEMAND request sets the head's
colour-skip to the block of its change (log entry 46). -/
def Part.cancelRequest (p : Part) (h : Nat) : Part × Status :=
  let q := p.changeRequest h
  let skip : Part :=
    if q.origin = .demand then
      p.setSelector h { p.selector h with skip := p.arb.change.map ChangeRecord.block }
    else p
  match q.state with
  | .pending => ((skip.finishRequest h .cancelled false).examineEnd h, .done)
  | .moving =>
    if q.cancelAsked then (p, .taken) else (skip.setChangeRequest h { q with cancelAsked := true }, .taken)
  | _ => (p, .state)

/-! ## CLEAR (R106, R203) -/

/-- The end of a CLEAR: READY with cause CLEARED when a design is active, UNREADY otherwise; the CLEARED notice (R106). The locked-from
record is made absent with the lock cause (DESIGN CHOICE, log entry 53). -/
def Part.finishClear (p : Part) : Part :=
  let p1 : Part := { p with ctl := { p.ctl with lockCause := none, lockedFrom := none, repair := none } }
  (p.keepSpeed (if p.ctl.design.isSome then p1.enterReady .cleared else p1.enterUnready)).notice .cleared

/-- What the completed leg was for the travel the lock was taken in (R106). -/
def Part.countLeg (p : Part) : Part :=
  match (p.ctl.lockedFrom.bind LockedFrom.travel).map Travel.kind with
  | some .back => p.setCur (p.cur - 1)
  | some .fwd => p.setCur (p.cur + 1)
  | some .rewind => p.setCur 0
  | _ => p

/-- A case still REPAIRING at the end of a CLEAR, or at RESTART, is settled (R203). -/
def Part.settleRepair (p : Part) : Part :=
  match p.ctl.repair with
  | some r =>
    match (p.caseAt r.caseNo).map Case.state with
    | some .repairing => p.settleCase r.caseNo r.breakOrdinal
    | _ => p
  | none => p

/-- The travel of a CLEAR: its target is that of the leg it runs (R84, R106). -/
def Part.clearTravel (p : Part) : Travel :=
  Travel.plain .clear (.frame (match p.pos.move with
    | some m => m.target
    | none => p.pos.n))

/-- A leg of a CLEAR completes: the second leg of a lock in OUTBOUND, the travel's target with it, or the end (R84, R106, R203). For the
second leg the repair context shows HOMEBOUND (DESIGN CHOICE, log entry 62). -/
def Part.clearLegDone (p : Part) : Part :=
  match p.ctl.repair with
  | some r =>
    if r.phase = .outbound then
      let p1 := (p.setRepair { r with phase := .homebound }).startNetLeg r.ret
      { p1 with ctl := { p1.ctl with travel := some p1.clearTravel } }
    else p.settleRepair.finishClear
  | none => p.countLeg.finishClear

/-- The leg of a CLEAR that is taken with an interrupted move or a lock in REPAIRING (R40, R106, R203). -/
def Part.clearLeg (p : Part) : Part :=
  match p.ctl.repair with
  | some r =>
    match r.phase with
    | .outbound | .homebound => if p.pos.move.isSome then p.resumeMove else p.startNetLeg r.ret
    | .prepare | .sewing => p.startNetLeg r.ret
  | none => p.resumeMove

/-- CLEAR as it is taken: the part and the status (R106). -/
def Part.takeClear (p0 : Part) : Part × Status :=
  let p : Part := { p0 with shaft := { p0.shaft with lastFault := .none } }
  if p.pos.move.isSome ∨ p.ctl.repair.isSome then
    (p.keepSpeed (p.clearLeg.enterTraversing p.clearLeg.clearTravel), .taken)
  else (p.finishClear, .done)

/-! ## A leg completes (R35) -/

/-- A completed leg is taken by the block that asked for it. -/
def Part.legDone (p : Part) : Part :=
  match p.ctl.state, p.ctl.travel with
  | .traversing, some t =>
    match t.kind, t.target with
    | .activate, _ => p.stopIn .activated
    | .rewind, _ => (p.setCur 0).stopIn .activated
    | .jog, _ => p.enterUnready.notice .stopped
    | .clear, _ => p.clearLegDone
    | .back, .ordinal o => p.stepDone t o false
    | .fwd, .ordinal o => p.stepDone t o true
    | _, _ => p
  | .repairing, _ =>
    match p.ctl.repair with
    | some r =>
      match r.phase with
      | .outbound => p.outboundDone r
      | .homebound => p.homeboundDone r
      | _ => p
    | none => p
  | _, _ => p

/-- A home search has ended, found or not: HOMED, CLEARED when it was a CLEAR's, and UNREADY (R36, R106). -/
def Part.searchDone (p : Part) : Part :=
  let p1 := p.notice .homed
  if p.travelKind = some .clear then p1.finishClear else p1.enterUnready

/-! ## RESTART (R21, R41, R64, R82, R108, R149, R168, R184, R204) -/

/-- A head record at RESTART (R184). -/
def Head.restart (r : Head) : Head :=
  { r with state := if r.state.isParked then .active else r.state, latches := KindSet.none, lastBreak := none }

/-- What the chain controller keeps of a head at RESTART: the missing count becomes 0, the expectations stay (R82). -/
def HeadLink.restart (l : HeadLink) : HeadLink := { l with missing := 0 }

/-- The library at RESTART: the active design SEALED, a seal in flight abandoned (R21). -/
def Part.restartLibrary (p : Part) : Part :=
  let l := match p.ctl.design with
    | some d => p.lib.setState d .sealed
    | none => p.lib
  { p with lib := l.abandonSeal }

/-- The controller's fields at RESTART (R108, step 4). -/
def Controller.restart (_k : Controller) : Controller := Controller.reset

/-- LOCKED at once with cause ESTOP when UNREADY is entered by RESTART or the RESET line with ESTOP low (R105), without a commit frame
of its own: no head board is recorded DOWN then (DEDUCED, log entry 11). -/
def Part.lockIfEstop (p : Part) : Part :=
  if p.lines.estop then p
  else
    { p with ctl := { p.ctl with state := .locked, lockCause := some .estop, lockedFrom := some ⟨.unready, none, none⟩ } }

/-- RESTART (R108, R215). -/
def Part.restartAll (p0 : Part) : Part :=
  let p1 := ((p0.closeAllOpen p0.cur).settleRepair).restartLibrary
  let p2 := ((p1.flush.disableDrive).restartFrame).commitFrame true false
  let p3 : Part :=
    { p2 with
      chain := { p2.chain with links := p2.chain.links.map HeadLink.restart }
      heads := p2.heads.map Head.restart
      mon := { p2.mon with lengths := [], sensing := p2.mon.sensing.map fun s => { s with noted := [] } }
      ctl := p2.ctl.restart }
  (p3.restartArbiter).lockIfEstop

/-! ## The enable of a head (R170, R147) -/

/-- A PENDING request of a head whose enable is cleared ends FAILED(ABORT) (R132, R147). -/
def Part.abortPending (p : Part) (h : Nat) : Part :=
  if (p.changeRequest h).state = .pending then (p.finishRequest h (.failed .abort) false).examineEnd h else p

/-- The enable of a head is cleared (R147, R170). A head that lies above heads_fitted is DISABLED already; its request ends all
the same (R132). -/
def Part.disableHead (p : Part) (h : Nat) : Part :=
  let r := p.head h
  if r.state = .disabled then (p.setHead h { r with enable := false }).abortPending h
  else
    let p1 := (p.setHead h { r with enable := false, state := .disabled }).revise h
    let p2 := (p1.setLink h { p1.link h with missing := 0 }).resetCounts h
    (if r.state.isParked then p2.closeOpenOf h p2.cur else p2).abortPending h

/-- The enable of a head is set (R170). -/
def Part.enableHead (p : Part) (h : Nat) : Part :=
  let r := p.head h
  if h ≤ p.par.headsFitted ∧ r.state = .disabled then
    match p.ctl.state with
    | .starting | .running | .stopping | .repairing => p.setHead h { r with enable := true, state := .parked .operator }
    | _ =>
      let p1 := p.setHead h { r with enable := true, state := .active }
      match p1.openChange with
      | some c => ((Part.checkHead c.block c.slot p1 h).grants).checkChange
      | none => p1
  else p.setHead h { r with enable := true }

end Sys2Proof.Machine
end

