-- ==== Sys2Proof/Machine/Sensing.lean ====
section
/-! DEFINITION. The thread monitor (chapter 8): lengths, the evaluation of spans, the tension and motion tests, the bobbin. -/

namespace Sys2Proof.Machine

/-! ## Lengths (R159) -/

/-- The thread length of an ordinal from its transformed displacement and the placement's scales (R159). -/
def Placement.threadLength (pl : Placement) (d : Vec) : Nat :=
  let t := pl.transform d
  let a := t.x.natAbs * pl.scaleX / 1024
  let b := t.y.natAbs * pl.scaleY / 1024
  max a b + min a b / 2

/-- The length of a displacement of the active design. -/
def Part.threadLength (p : Part) (d : Vec) : Nat :=
  match p.pos.placement with
  | some pl => pl.threadLength d
  | none => 0

/-- Keep the length of a committed NORMAL ordinal; the oldest of more than three is dropped (R159). -/
def Part.keepLength (p : Part) (o l : Nat) : Part :=
  let ls := p.mon.lengths ++ [(o, l)]
  { p with mon := { p.mon with lengths := ls.drop (ls.length - 3) } }

/-- The kept length of an ordinal, the latest first. -/
def Part.lengthOf (p : Part) (o : Nat) : Nat :=
  ((p.mon.lengths.reverse.find? fun e => decide (e.1 = o)).map Prod.snd).getD 0

/-! ## The tension test (R160) -/

/-- The samples of a report with the orders they answer: the first k fields answer the k orders (R217). -/
def orderedSamples (orders : List SampleOrder) (samples : List (Option Nat)) : List (SampleUse × Option Nat) :=
  List.zipWith (fun o s => (o.use, s)) orders samples

/-- The verdict on a sample against a band (R160, R167). -/
def sampleVerdict (t : Thread) : SampleUse × Option Nat → SampleVerdict
  | (_, none) => .missing
  | (.settle, some _) => .settle
  | (.check, some v) => if v < t.low ∨ t.high < v then .outOfBand else .inBand

/-- The tension test on one sample (R160): TENSION is declared when the debounce count reaches tension_count, and the count
is then 0; an in-band CHECK sample ends the live mark (R171). -/
def Part.tensionSample (h o : Nat) (t : Thread) (p : Part) (s : SampleUse × Option Nat) : Part :=
  match sampleVerdict t s with
  | .settle | .missing => p
  | .inBand => p.setSensing h { p.sensing h with debounce := 0, tensionLive := false }
  | .outOfBand =>
    let k := (p.sensing h).debounce + 1
    if p.par.tensionCount ≤ k then
      (p.setSensing h { p.sensing h with debounce := 0 }).declare h .tension (some o) false
    else p.setSensing h { p.sensing h with debounce := k }

/-! ## The motion test (R161, R162) -/

/-- The expected pulse count of a length (R161). -/
def Params.expectedPulses (q : Params) (l : Nat) : Nat := q.motionBase + l * q.motionRate / 256

/-- A stitch is low when its thread drew less than break_ratio sixteenths of the thread expected (R161). -/
def Params.lowStitch (q : Params) (pulses e : Nat) : Bool := decide (pulses * 16 < e * q.breakRatio)

/-- The low-motion run has reached break_count: the record is BROKEN, BREAK is declared with the break ordinal, the run starts
afresh (R162). -/
def Part.declareBreak (p : Part) (h n o : Nat) : Part :=
  let p1 := p.putThread h n { p.thread h n with state := .broken }
  let p2 := p1.declare h .break_ (some o) false
  p2.setSensing h { p2.sensing h with lowRun := 0, firstLow := none }

/-- The motion test on a span (R162). -/
def Part.motionTest (p : Part) (h n o : Nat) (low : Bool) : Part :=
  if low then
    let s := p.sensing h
    let first := if s.lowRun = 0 then o else s.firstLow.getD o
    let p1 := p.setSensing h { s with lowRun := s.lowRun + 1, firstLow := some first }
    if p.par.breakCount ≤ s.lowRun + 1 then p1.declareBreak h n first else p1
  else p.setSensing h { p.sensing h with lowRun := 0, firstLow := none }

/-! ## Spans (R158, R167) -/

/-- The span needle noted for an ordinal (R158). -/
def Sensing.spanNeedle (s : Sensing) (o : Nat) : Option Nat := lookupKey o s.noted

/-- The span of a DOWN latch is evaluated or passed over: its note is taken off (R158). The span of a HELD latch has no note to
take off, so a late move's leaves the note of the same ordinal latched DOWN after it. -/
def Part.unnote (p : Part) (h : Nat) (l : Latch) : Part :=
  if l.down then
    p.setSensing h
      { p.sensing h with noted := (p.sensing h).noted.filter fun e => decide (some e.1 ≠ l.ordinal) }
  else p

/-- Store the last span of a head (R167). -/
def Part.setLastSpan (p : Part) (h : Nat) (s : LastSpan) : Part :=
  p.setSensing h { p.sensing h with lastSpan := some s }

/-- The evaluation of a sewn span of ordinal `o` and span needle `n`: the tension test first, the motion test second
(R160 to R164). -/
def Part.evaluateSpan (p : Part) (h o n : Nat) (l : Latch) (r : Report) : Part :=
  let t := p.thread h n
  let samples := orderedSamples l.orders r.samples
  let len := p.lengthOf o
  let e := p.par.expectedPulses len
  let low := p.par.lowStitch r.pulses e
  let p1 := samples.foldl (Part.tensionSample h o t) p
  (p1.motionTest h n o low).setLastSpan h
    (.evaluated o n r.pulses len e low (samples.map fun s => ⟨s.2, s.1, sampleVerdict t s⟩))

/-- The span of a head at a sewing exchange: evaluated, or passed over with its reason (R158, R167, log entry 20). `report` is
the valid report, if there is one; the span needle is the noted one, which a RESTART drops (R168). -/
def Part.deliverSpan (p0 : Part) (h : Nat) (report : Option Report) : Part :=
  let l := (p0.link h).expected
  let p := p0.unnote h l
  match report with
  | none => p.setLastSpan h .noReport
  | some r =>
    if l.held then p.setLastSpan h .held
    else
      match l.ordinal, l.down, l.ordinal.bind (p0.sensing h).spanNeedle with
      | some o, true, some n =>
        if p.chain.closingVoid then p.setLastSpan h .voidSpan
        else if (p.thread h n).state ≠ .ready then p.setLastSpan h .notReady
        else p.evaluateSpan h o n l r
      | _, _, _ => p.setLastSpan h .notSewn

/-! ## The bobbin (R163) -/

/-- The bobbin of one head at the commit of a NORMAL ordinal of a length (R163). -/
def Part.drawBobbin (o len : Nat) (p : Part) (h : Nat) : Part :=
  match (p.link h).recorded.down, (p.head h).bobbin with
  | true, some b =>
    let p1 := p.setHead h { p.head h with bobbin := some (b - len) }
    if 0 < b ∧ b ≤ len then p1.declare h .bobbin (some o) false else p1
  | _, _ => p

/-- The bobbins at the commit of a NORMAL ordinal (R163). -/
def Part.drawBobbins (p : Part) (o len : Nat) : Part := p.forHeads allHeads (Part.drawBobbin o len)

end Sys2Proof.Machine
end

