-- ==== Sys2Proof/Machine/Exchange.lean ====
section
/-! DEFINITION. The report phase of an exchange (R75, R79 to R81, R179, R217): what each reply slot leaves, and the command
phase after the last. -/

namespace Sys2Proof.Machine

/-- A button press by the head's state and the controller's (R179): the part and the outcome. -/
def Part.pressButton (p : Part) (h : Nat) : Part × ButtonOutcome :=
  match p.ctl.state with
  | .locked | .repairing => (p, .ignored)
  | _ =>
    match (p.head h).state with
    | .disabled => (p, .ignored)
    | .active => (p.parkHead h .operator none, .parked)
    | .parked _ => if p.mayRestore h then (p.restore h, .restored) else (p, .refused)

/-- A button flag of a valid report: taken as a press only when the head's previous valid report had the flag clear or there
has been none (R80); the outcome is recorded with the sequence number (R179). -/
def Part.buttonFlag (p : Part) (h : Nat) (flag : Bool) : Part :=
  let before := (p.link h).button
  let p1 := p.setLink h { p.link h with button := some flag }
  if flag ∧ before ≠ some true then
    let r := p1.pressButton h
    r.1.setHead h { r.1.head h with button := some (r.2, p.chain.seq) }
  else p1

/-- The missing-report count of a head by its report, and LOST (R81). LOST is raised whenever the count comes to lost_count, also of a
head that was LOST under a lower one (DESIGN CHOICE, log entry 59). -/
def Part.countReport (p : Part) (h : Nat) (valid : Bool) : Part :=
  let l := p.link h
  if (p.head h).state = .disabled then p.setLink h { l with missing := 0 }
  else if valid then p.setLink h { l with missing := 0 }
  else if p.par.lostCount ≤ l.missing then p
  else
    let p1 := p.setLink h { l with missing := l.missing + 1 }
    if l.missing + 1 = p.par.lostCount then p1.raiseLost h else p1

/-- The reply slot of head `h` ends with an outcome, and with the report when it is valid: the count, the span, the selector
position, the button (R79 to R81, log entry 10). -/
def Part.takeReport (p : Part) (k : ExchangeKind) (h : Nat) (o : ReportOutcome) (report : Option Report) : Part :=
  let p1 := p.setLink h { p.link h with outcome := some o }
  let p2 := p1.countReport h report.isSome
  let p3 := match k with
    | .sewing => p2.deliverSpan h report
    | .idle => p2
  match report with
  | none => p3
  | some r => (p3.reportPosition h r.detent r.moving).buttonFlag h r.button

/-- The next reply slot, or the command phase after the last (R75). An exchange that has ended meanwhile stays ended. -/
def Part.nextSlot (p : Part) : Part :=
  match p.chain.exchange with
  | none => p
  | some x =>
    if x.slot < x.fitted then { p with chain := { p.chain with exchange := some { x with slot := x.slot + 1 } } }
    else p.commandPhase x

/-- A report frame received in the present reply slot (R75, R217). -/
def Part.receive (p : Part) (frame : List Byte) : Part :=
  match p.chain.exchange with
  | none => p
  | some x =>
    match parseReport frame with
    | some r =>
      if p.reportValid x.kind x.slot r then (p.takeReport x.kind x.slot .valid (some r)).nextSlot
      else (p.takeReport x.kind x.slot .mismatched none).nextSlot
    | none => (p.takeReport x.kind x.slot .mismatched none).nextSlot

/-- The present reply slot ends without a report: missing with no byte at all, mismatched otherwise (R217). -/
def Part.slotEnd (p : Part) (anyByte : Bool) : Part :=
  match p.chain.exchange with
  | none => p
  | some x => (p.takeReport x.kind x.slot (if anyByte then .mismatched else .missing) none).nextSlot

/-- The idle exchange that is due 20 ms after the start of the last exchange, while the angle is unsynchronized or the shaft
stands, unless an exchange is in progress (R74, log entry 29). -/
def Part.idleExchange (p : Part) : Part :=
  if p.chain.exchange.isNone && (p.shaft.standing || !p.shaft.synced) then
    (p.atLeast (p.chain.lastStart + 20000)).startExchange .idle
  else p

end Sys2Proof.Machine
end

