-- ==== Sys2Proof/Machine/Revolution.lean ====
section
/-! DEFINITION. The revolution cycle (R52, R53, R58, R69, R92, R98): what each landmark does, the commit, and one encoder
count. -/

namespace Sys2Proof.Machine

/-! ## Window start (R52) -/

/-- Replace the head entry of the queue. -/
def Part.setHeadEntry (p : Part) (e : Entry) : Part :=
  { p with plan := { p.plan with queue := match p.plan.queue with
    | [] => []
    | _ :: rest => e :: rest } }

/-- Window start: a head entry not yet issued is handed to the step generators; a trim entry is no part of its ordinal's
move (R29, R52). -/
def Part.windowStart (p : Part) : Part :=
  match p.plan.queue with
  | [] => p
  | e :: _ =>
    if e.issued then p
    else
      let d := ((p.serve e.ordinal).map Served.d).getD Vec.zero
      let target := p.committed (p.pos.pOrZero.add (p.idealStep d))
      (p.setHeadEntry { e with issued := true, complete := decide (e.steps = Vec.zero) }).issueSubMove e.steps target
        (decide (e.index ≤ e.count))

/-- The step generators report the sub-move complete (R34, R52). -/
def Part.subMoveComplete (p : Part) : Part :=
  if p.pos.busy then
    let p1 : Part := { p with pos := p.pos.subMoveDone }
    match p1.plan.queue with
    | e :: _ => if e.issued then p1.setHeadEntry { e with complete := true } else p1
    | [] => p1
  else p

/-! ## The commit (R52, R92) -/

/-- An ordinal is committed, at the run controller: c advances, STARTING becomes RUNNING, the case table is told of the
commit and of the ends of block and design; in a repair run its progress is (R92, R199). -/
def Part.ordinalCommit (p : Part) (sv : Served) : Part :=
  let sewn := decide (sv.kind = .normal)
  match p.repairing with
  | some r => p.repairProgress r.caseNo r.head sv.ordinal sewn
  | none =>
    let p1 := p.setCur (sv.ordinal + 1)
    let p2 := if p1.ctl.state = .starting then p1.enter .running else p1
    let p3 := p2.commitCases sv.ordinal sewn
    if sv.blockEnd || sv.designEnd then p3.closeAllOpen p3.cur else p3

/-- The last sub-move of an ordinal is committed: P advances, the ordinal is committed, the length of a NORMAL ordinal is
kept (R31, R52, R159). -/
def Part.commitOrdinal (p : Part) (sv : Served) : Part :=
  let p1 := (p.commitMove sv.d).ordinalCommit sv
  if sv.kind = .normal then p1.keepLength sv.ordinal (p.threadLength sv.d) else p1

/-- The stop is reached: the controller settles, or the repair run notes it; the stop order and the flush (R58, R98). -/
def Part.stopReached (p : Part) : Part :=
  let origin := match p.plan.stop.held with
    | some (_, _, g) => g
    | none => .count
  let p1 : Part :=
    match p.repairSewing with
    | some r => p.setRepair { r with stopReached := true }
    | none => (({ p with ctl := { p.ctl with phase := some .settling, origin := some origin } } : Part)).enter .stopping
  p1.stopOrder.flush

/-- The commit of the head entry, in the order of R52. -/
def Part.commitEntry (p : Part) (e : Entry) : Part :=
  let sv := p.serve e.ordinal
  let p1 :=
    match sv with
    | some v => if e.index = e.count then p.commitOrdinal v else p
    | none => p
  let p2 :=
    if e.stopAfter then p1.stopReached
    else
      (({ p1 with plan := { p1.plan with queue := p1.plan.queue.drop 1 } } : Part).fillQueue.runLookAhead).nextDemand
  match sv with
  | some v => if e.index = e.count ∧ v.kind = .normal then p2.drawBobbins v.ordinal (p.threadLength v.d) else p2
  | none => p2

/-- The commit angle: the test of the head entry, the commit frame and its record, then the commit or the late move
(R52, R53, R77). -/
def Part.commitAngle (p : Part) : Part :=
  match p.plan.queue with
  | [] => p.commitFrame true false
  | e :: _ =>
    if !e.issued then p.commitFrame true false
    else if !e.complete then (p.commitFrame true true).lateDemand
    else (p.commitFrame (decide (p.ctl.state = .locked)) false).commitEntry e

/-! ## Landmarks and counts (R65 to R69) -/

/-- What a landmark sets off (R69). -/
def Part.actOnLandmark (p : Part) (l : Landmark) : Part :=
  match l with
  | .windowStart => p.windowStart
  | .commitAngle => p.commitAngle
  | .exchangeAngle => p.startExchange .sewing
  | .trimAngle => p.trimFrame

/-- Deliver a landmark once (R69). -/
def Part.deliverLandmark (p : Part) (l : Landmark) : Part :=
  ({ p with shaft := p.shaft.setSpent true l } : Part).actOnLandmark l

/-- The index watch trips: the encoder fault INDEX, the synchronization is cleared, the count is 0, and the controller locks
(R67, R104). -/
def Part.indexTrip (p : Part) : Part :=
  ({ p with shaft := { p.shaft with lastFault := .index, synced := false, indexCount := 0 } } : Part).lock .encoder

/-- The reverse watch trips: the encoder fault REVERSE, the run is 0, and the controller locks (R67, R104). -/
def Part.reverseTrip (p : Part) : Part :=
  ({ p with shaft := { p.shaft with lastFault := .reverse, reverseRun := 0 } } : Part).lock .encoder

/-- One forward count: angle, index passage, measured speed, the index watch, the landmarks (R65 to R69). The watch comes before the
landmark of the same count (DESIGN CHOICE, log entry 61). -/
def Part.countForward (p : Part) (index : Bool) : Part :=
  let p1 := ({ p with shaft := (p.shaft.countUp index).counted p.now } : Part).measure
  let p2 := if 1100 < p1.shaft.indexCount then p1.indexTrip else p1
  let p3 : Part := { p2 with shaft := p2.shaft.rearm p2.par.wStart }
  p3.shaft.landmarks.foldl Part.deliverLandmark p3

/-- One reverse count: angle, the reverse watch (R65, R67). -/
def Part.countReverse (p : Part) (index : Bool) : Part :=
  let p1 : Part := { p with shaft := (p.shaft.countDown index).counted p.now }
  if 32 < p1.shaft.reverseRun then p1.reverseTrip else p1

/-- A change of the pair, by how it is decoded (R65). -/
def Part.encoderChange (p : Part) (c : PairChange) (index : Bool) : Part :=
  match c with
  | .forward => p.countForward index
  | .reverse => p.countReverse index
  | .still | .both => p

end Sys2Proof.Machine
end

