-- ==== Sys2Proof/Machine/Records.lean ====
section
/-! DEFINITION. The payload of every response: each record as R209 encodes its fields, in the order its rule lists them. An
enumerated value is its position in the list of the owning chapter. Choices of composition: log entry 15. -/

namespace Sys2Proof.Machine

/-- A value of `w` bytes. -/
def num (w n : Nat) : List Item := [.u w n]
/-- A flag. -/
def flag (b : Bool) : List Item := [itemFlag b]
/-- A value of the same bytes, all zero. -/
def Item.zeroed : Item → Item
  | .u w _ => .u w 0
  | .s w _ => .s w 0

/-- An optional field made of several values: presence byte, then its bytes; absent, as many zero bytes as `shape` takes (R209). -/
def optItems {α : Type} (o : Option α) (shape : α) (f : α → List Item) : List Item :=
  match o with
  | none => .u 1 0 :: (f shape).map Item.zeroed
  | some v => .u 1 1 :: f v
/-- An optional enumerated value. -/
def optCode {α : Type} (o : Option α) (f : α → Nat) : List Item := itemOpt 1 (o.map f)

/-! ## Enumerated values -/

/-- R1. -/
def DesignState.code : DesignState → Nat
  | .empty => 0
  | .loading => 1
  | .sealing => 2
  | .sealed => 3
  | .active => 4

/-- R14. -/
def SealError.code : SealError → Nat
  | .noStart => 3
  | .badRange => 4
  | .badSlot => 5
  | .trimShift => 6
  | .tooLong => 7
  | .extent => 8
  | .noRun => 9
  | .loop => 10

/-- NONE, OK, ABANDONED, or an error kind; with the run index of an error (section 1.1). -/
def SealResult.items : SealResult → List Item
  | .none => num 1 0 ++ itemOpt 2 Option.none
  | .ok => num 1 1 ++ itemOpt 2 Option.none
  | .abandoned => num 1 2 ++ itemOpt 2 Option.none
  | .error k r => num 1 k.code ++ itemOpt 2 (some r)

/-- R3, R216. -/
def StitchKind.code : StitchKind → Nat
  | .normal => 0
  | .jump => 1
  | .trim => 2

/-- R25. -/
def Orientation.code : Orientation → Nat
  | .r0 => 0
  | .r90 => 1
  | .r180 => 2
  | .r270 => 3

/-- NONE, OK, NOT_FOUND, in the order in which R36 first names them (DEDUCED, log entry 38). -/
def HomeResult.code : HomeResult → Nat
  | .none => 0
  | .ok => 1
  | .notFound => 2

/-- Traverse leg, home search, sewing move (R39). -/
def MoveKind.code : MoveKind → Nat
  | .leg => 0
  | .homeSearch => 1
  | .sewing => 2

/-- DOWN, HELD (R43). -/
def modeCode (down : Bool) : Nat := if down then 0 else 1

/-- v_max, v_jump, v_stop (R43). -/
def Cap.code : Cap → Nat
  | .vMax => 0
  | .vJump => 1
  | .vStop => 2

/-- R55. -/
def StopOrigin.code : StopOrigin → Nat
  | .halt => 0
  | .colour => 1
  | .designEnd => 2
  | .count => 3
  | .line => 4
  | .repair => 5

/-- R70. -/
def Drive.code : Drive → Nat
  | .disabled => 0
  | .holding => 1
  | .turning => 2
  | .positioning => 3

/-- INDEX, REVERSE, NONE (R67; DEDUCED, log entry 38). -/
def EncoderFault.code : EncoderFault → Nat
  | .index => 0
  | .reverse => 1
  | .none => 2

/-- SEWING, IDLE (R75). -/
def ExchangeKind.code : ExchangeKind → Nat
  | .sewing => 0
  | .idle => 1

/-- VALID, MISSING, MISMATCHED (R83). -/
def ReportOutcome.code : ReportOutcome → Nat
  | .valid => 0
  | .missing => 1
  | .mismatched => 2

/-- The nine states in the order of chapter 5. -/
def CtlState.code : CtlState → Nat
  | .unready => 0
  | .traversing => 1
  | .ready => 2
  | .starting => 3
  | .running => 4
  | .stopping => 5
  | .changing => 6
  | .repairing => 7
  | .locked => 8

/-- SLOWING, SETTLING (R84). -/
def StopPhase.code : StopPhase → Nat
  | .slowing => 0
  | .settling => 1

/-- NONE, then the causes of R85. -/
def Cause.code : Cause → Nat
  | .none => 0
  | .activated => 1
  | .stop => 2
  | .line => 3
  | .count => 4
  | .halt => 5
  | .colour => 6
  | .designEnd => 7
  | .fault => 8
  | .jam => 9
  | .casesFull => 10
  | .cleared => 11
  | .repairDone => 12

/-- STOP, LINE, FAULT, CASES_FULL (R84). -/
def Pending.code : Pending → Nat
  | .stop => 0
  | .line => 1
  | .fault => 2
  | .casesFull => 3

/-- ESTOP, DRIVE, ENCODER, POSITIONING (R84). -/
def LockCause.code : LockCause → Nat
  | .estop => 0
  | .drive => 1
  | .encoder => 2
  | .positioning => 3

/-- ACTIVATE, BACK, FWD, REWIND, HOME, JOG, CLEAR, repair leg (R84). -/
def TravelKind.code : TravelKind → Nat
  | .activate => 0
  | .back => 1
  | .fwd => 2
  | .rewind => 3
  | .home => 4
  | .jog => 5
  | .clear => 6
  | .repairLeg => 7

/-- COLOUR, START (R84). -/
def ChangeKind.code : ChangeKind → Nat
  | .colour => 0
  | .start => 1

/-- OUTBOUND, PREPARE, SEWING, HOMEBOUND (R107). -/
def RepairPhase.code : RepairPhase → Nat
  | .outbound => 0
  | .prepare => 1
  | .sewing => 2
  | .homebound => 3

/-- HEAD, BANK (R110). -/
def MapMode.code : MapMode → Nat
  | .head => 0
  | .bank => 1

/-- ACTIVE, A, B (R110). -/
def Staged.code : Staged → Nat
  | .a => 1
  | .b => 2

/-- DEFAULT, A, B, EDITED (R112). -/
def MapOrigin.code : MapOrigin → Nat
  | .default => 0
  | .a => 1
  | .b => 2
  | .edited => 3

/-- REQUEST, LINE, AUTO (R116). -/
def StrobeSource.code : StrobeSource → Nat
  | .request => 0
  | .line => 1
  | .auto => 2

/-- APPLIED, HELD, DISCARDED, IGNORED (R116). -/
def StrobeOutcome.code : StrobeOutcome → Nat
  | .applied => 0
  | .held => 1
  | .discarded => 2
  | .ignored => 3

/-- DEMAND, MANUAL (R132). -/
def RequestOrigin.code : RequestOrigin → Nat
  | .demand => 0
  | .manual => 1

/-- NONE, PENDING, MOVING, DONE, CANCELLED, FAILED (R132). -/
def RequestState.code : RequestState → Nat
  | .none => 0
  | .pending => 1
  | .moving => 2
  | .done => 3
  | .cancelled => 4
  | .failed _ => 5

/-- JAM, LOST, ABORT (R132). -/
def FailKind.code : FailKind → Nat
  | .jam => 0
  | .lost => 1
  | .abort => 2

/-- The failure kind, present in FAILED only (R132). -/
def RequestState.failure : RequestState → Option FailKind
  | .failed k => some k
  | _ => Option.none

/-- AT_NEEDLE with its needle, MOVING, JAMMED, UNSURE (R129): a code, then the needle, 0 outside AT_NEEDLE (DESIGN CHOICE, log entry
15). -/
def SelectorState.items : SelectorState → List Item
  | .atNeedle n => num 1 0 ++ num 1 n
  | .moving => num 1 1 ++ num 1 0
  | .jammed => num 1 2 ++ num 1 0
  | .unsure => num 1 3 ++ num 1 0

/-- EMPTY, READY, BROKEN, BLOCKED (R151). -/
def ThreadState.code : ThreadState → Nat
  | .empty => 0
  | .ready => 1
  | .broken => 2
  | .blocked => 3

/-- CHECK, SETTLE (R155). -/
def SampleUse.code : SampleUse → Nat
  | .check => 0
  | .settle => 1

/-- IN, OUT, SETTLE, MISSING (R167). -/
def SampleVerdict.code : SampleVerdict → Nat
  | .inBand => 0
  | .outOfBand => 1
  | .settle => 2
  | .missing => 3

/-- STOP, PARK, NOTE (R172; DEDUCED, log entry 39). -/
def FaultAction.code : FaultAction → Nat
  | .stop => 0
  | .park => 1
  | .note => 2

/-- ACTIVE, PARKED, DISABLED (R169). -/
def HeadState.code : HeadState → Nat
  | .active => 0
  | .parked _ => 1
  | .disabled => 2

/-- BREAK, TENSION, BOBBIN, LOST, JAM, OPERATOR (R169). -/
def ParkCause.code : ParkCause → Nat
  | .break_ => 0
  | .tension => 1
  | .bobbin => 2
  | .lost => 3
  | .jam => 4
  | .operator => 5

/-- The park cause, present in PARKED only (R169). -/
def HeadState.cause : HeadState → Option ParkCause
  | .parked c => some c
  | _ => none

/-- PARKED, RESTORED, REFUSED, IGNORED (R169). -/
def ButtonOutcome.code : ButtonOutcome → Nat
  | .parked => 0
  | .restored => 1
  | .refused => 2
  | .ignored => 3

/-- OPEN, CLOSED, REPAIRING, MENDED (R185). -/
def CaseState.code : CaseState → Nat
  | .isOpen => 0
  | .closed => 1
  | .repairing => 2
  | .mended => 3

/-- OFF, A, B, LINE (R122). -/
def AutoStrobe.code : AutoStrobe → Nat
  | .off => 0
  | .a => 1
  | .b => 2
  | .line => 3

/-- A set of kinds: one bit per kind in list order from bit 0 (R209). -/
def KindSet.byte (s : KindSet) : Nat :=
  s.break_.toNat + 2 * s.tension.toNat + 4 * s.bobbin.toNat + 8 * s.lost.toNat + 16 * s.jam.toNat

/-- The notice byte: bits 0 to 6 in the order of R213. -/
def Notices.byte (n : Notices) : Nat :=
  n.stopped.toNat + 2 * n.fault.toNat + 4 * n.sealed.toNat + 8 * n.case.toNat + 16 * n.selectDone.toNat +
    32 * n.homed.toNat + 64 * n.cleared.toNat

/-! ## The library (R24, R23) -/

/-- Four signed figures of a rectangle: minimum and maximum X, then Y, in the order of the hoop field (R27) and for an extent (R24) too
(DESIGN CHOICE, log entry 15). -/
def Box.items (b : Box) : List Item := [.s 4 b.minX, .s 4 b.maxX, .s 4 b.minY, .s 4 b.maxY]

/-- The design record of LOOKUP DESIGN (R24); the derived fields are optional. -/
def Design.items (x : Design) : List Item :=
  num 1 x.state.code ++ num 2 x.pages.length ++ num 3 x.count ++ num 2 x.runs.length ++ num 2 x.startRun ++
    x.slots.flatMap (itemOpt 2) ++ x.result.items ++ itemOpt 3 (x.derived.map Derived.total) ++
    itemOpt 2 (x.derived.map fun v => v.chain.length) ++ itemOpt 2 (x.derived.map fun v => v.blocks.length) ++
    optItems (x.derived.map Derived.extent) ⟨0, 0, 0, 0⟩ Box.items

/-- The derived fields of a run in the chain (section 1.3). -/
def ChainEntry.items (e : ChainEntry) : List Item :=
  num 3 e.base ++ itemVec e.start ++ itemVec e.shift ++ num 3 e.count ++ num 2 e.block

/-- A run as LOOKUP RUN shows it, with its derived fields if it is in the chain (R24): one optional group under one presence byte (DESIGN
CHOICE, log entry 15). -/
def Run.items (r : Run) (e : Option ChainEntry) : List Item :=
  num 3 r.first ++ num 2 r.length ++ num 1 r.passes ++ num 1 r.slot ++ optItems r.endShift Vec.zero itemVec ++
    itemOpt 2 r.next ++ flag r.haltAfter ++ flag r.trimAfter ++
    optItems e ⟨0, 0, Vec.zero, Vec.zero, 0, 0⟩ ChainEntry.items

/-- A stitch record in wide form (R216). -/
def Stitch.item (v : Stitch) : Item := .u 3 (v.kind.code * 4194304 + fieldOf 11 v.d.x * 2048 + fieldOf 11 v.d.y)

/-- A served ordinal record (R23). -/
def Served.items (v : Served) : List Item :=
  num 3 v.ordinal ++ num 2 v.run ++ num 1 v.pass ++ itemOpt 3 v.stitch ++ num 1 v.kind.code ++ itemVec v.d ++
    num 1 v.slot ++ num 2 v.block.number ++ num 3 v.block.first ++ num 3 v.block.last ++
    optItems v.runEnd (false, false) (fun e => flag e.1 ++ flag e.2) ++ flag v.blockEnd ++ flag v.designEnd

/-- LOOKUP LIBRARY (R24): the 16 designs without a count byte, the state and the seal result of each together (DESIGN CHOICE, log entry
15). -/
def Library.items (l : Library) : List Item :=
  l.designs.flatMap (fun x => num 1 x.state.code ++ x.result.items) ++ num 2 l.freePages.length ++ num 2 l.freeRuns ++
    itemOpt 1 l.sealer

/-! ## The frame (R42) -/

/-- The placement record (R25), each scale two bytes unsigned (DESIGN CHOICE, log entry 15). -/
def Placement.items (q : Placement) : List Item :=
  itemVec q.origin ++ num 1 q.orientation.code ++ flag q.mirrorX ++ num 2 q.scaleX ++ num 2 q.scaleY

/-- P on both axes (R209). -/
def accItems (v : Vec) : List Item := [.s 6 v.x, .s 6 v.y]

/-- The placement of zeros that stands for an absent one. -/
def Placement.zero : Placement := ⟨Vec.zero, .r0, false, 0, 0⟩

/-- Kind, start and target of a move (R42). -/
def moveItems (m : MoveKind × Vec × Vec) : List Item := num 1 m.1.code ++ itemVec m.2.1 ++ itemVec m.2.2

/-- The committed position of ordinal c − 1 when a design is active (R42). -/
def Part.standsAt (p : Part) : Option Vec :=
  if p.ctl.design.isSome then some (p.committed (p.idealStanding p.cur)) else none

/-- LOOKUP FRAME (R42). -/
def Part.frameItems (p : Part) : List Item :=
  optItems p.pos.placement Placement.zero Placement.items ++ p.pos.hoop.items ++ itemVec p.pos.n ++
    optItems p.pos.p Vec.zero accItems ++ flag p.pos.homed ++ num 1 p.pos.homeResult.code ++
    optItems (p.pos.move.map fun m => (m.kind, m.start, m.target)) (.leg, Vec.zero, Vec.zero) moveItems ++
    optItems p.standsAt Vec.zero itemVec

/-! ## The machine record (R84) -/

/-- The locked-from record. -/
def LockedFrom.items (l : LockedFrom) : List Item :=
  num 1 l.state.code ++ optCode l.phase StopPhase.code ++ optCode (l.travel.map Travel.kind) TravelKind.code

/-- The travel: kind, and an ordinal or a frame position as its target. -/
def Travel.items (t : Travel) : List Item :=
  num 1 t.kind.code ++
    (match t.target with
     | .ordinal o => itemOpt 3 (some o) ++ optItems none Vec.zero itemVec
     | .frame v => itemOpt 3 none ++ optItems (some v) Vec.zero itemVec)

/-- The machine record of R84, without the notice set. -/
def Part.machineItems (p : Part) : List Item :=
  num 1 p.ctl.state.code ++ optCode p.ctl.phase StopPhase.code ++ num 1 p.ctl.cause.code ++
    optCode p.ctl.pending Pending.code ++ optCode p.ctl.origin StopOrigin.code ++
    optCode p.ctl.lockCause LockCause.code ++
    optItems p.ctl.lockedFrom ⟨.unready, none, none⟩ LockedFrom.items ++ itemOpt 1 p.ctl.design ++ itemOpt 3 p.ctl.c ++
    itemOpt 1 p.ctl.slot ++ flag p.changeDue ++
    optItems p.ctl.change ⟨.colour, 0⟩ (fun c => num 1 c.kind.code ++ num 1 c.slot) ++ flag p.ctl.armed ++
    optItems p.ctl.travel ⟨.activate, .ordinal 0, false, none⟩ Travel.items ++
    optItems (p.ctl.repair.map fun r => (r.ret, r.phase)) (0, .outbound) (fun r => num 3 r.1 ++ num 1 r.2.code) ++
    num 2 p.plan.vSet ++ num 2 p.plan.requested ++ flag p.pos.homed ++ itemVec p.pos.n ++ num 2 p.plan.demand ++
    num 2 p.shaft.speed

/-! ## Planner, shaft, chain (R63, R73, R83) -/

/-- A queue entry (R43). -/
def Entry.items (e : Entry) : List Item :=
  num 3 e.ordinal ++ num 2 e.index ++ num 2 e.count ++ itemVec e.steps ++ num 1 (modeCode e.down) ++ flag e.trim ++
    num 1 e.cap.code ++ num 2 e.vLim ++ num 2 e.vAllow ++ flag e.stopAfter ++ flag e.issued ++ flag e.complete

/-- The planned stop record (R55): its state, then ordinal, trim and origin without presence bytes, zeros in NONE (DESIGN CHOICE, log
entry 15). -/
def PlannedStop.items : PlannedStop → List Item
  | .none => num 1 0 ++ num 3 0 ++ flag false ++ num 1 0
  | .pending o t g => num 1 1 ++ num 3 o ++ flag t ++ num 1 g.code
  | .placed o t g => num 1 2 ++ num 3 o ++ flag t ++ num 1 g.code

/-- LOOKUP PLAN (R63). The previous demand is an optional field, absent while it is forgotten (DESIGN CHOICE, log entries 15 and
57). -/
def Planner.items (q : Planner) : List Item :=
  itemList 1 q.queue Entry.items ++
    optItems (q.fill.map fun f => (f.ordinal, f.index)) (0, 0) (fun f => num 3 f.1 ++ num 2 f.2) ++ q.stop.items ++
    num 2 q.demand ++ itemOpt 2 q.prev ++ num 2 q.vSet ++ num 2 q.requested

/-- LOOKUP SHAFT (R73). The positioning timer is an optional field, absent while the drive is not POSITIONING, and a line level is a flag,
1 for high (DESIGN CHOICE, log entry 15). -/
def Part.shaftItems (p : Part) : List Item :=
  num 2 p.shaft.angle ++ flag p.shaft.synced ++ num 1 p.shaft.reverse.toNat ++ num 2 p.shaft.speed ++
    flag p.shaft.standing ++ num 1 p.shaft.drive.code ++ num 2 p.drvDem ++ flag p.lines.drvFlt ++ flag p.lines.drvPos ++
    itemOpt 2 (p.shaft.posSince.map fun t => (p.now - t) / 1000) ++ num 2 p.shaft.indexCount ++ num 1 p.shaft.reverseRun ++
    [.s 2 p.shaft.correction] ++ num 1 p.shaft.lastFault.code

/-- A reported position: the detent or 0 for BETWEEN, and the moving flag (DESIGN CHOICE, log entry 15). -/
def Reported.items (r : Reported) : List Item := num 1 (r.detent.getD 0) ++ flag r.moving

/-- What LOOKUP CHAIN carries of a head (R83); a tag is an optional field of one byte (DESIGN CHOICE, log entry 15). -/
def Part.linkItems (p : Part) (h : Nat) : List Item :=
  let l := p.link h
  num 1 l.missing ++ optCode l.outcome ReportOutcome.code ++
    optItems (p.selector h).reported ⟨none, false⟩ Reported.items ++
    itemOpt 1 (l.opened.ordinal.map (· % 256)) ++ num 1 (modeCode l.opened.down) ++
    itemOpt 1 (l.commanded.ordinal.map (· % 256)) ++ num 1 (modeCode l.commanded.down)

/-- LOOKUP CHAIN (R83). -/
def Part.chainItems (p : Part) : List Item :=
  num 1 p.chain.seq ++ num 1 p.chain.lastKind.code ++ itemList 1 p.fittedHeads p.linkItems

/-! ## Maps (R127) -/

/-- The 24 entries of a unit, without a count byte (R113, R127; DESIGN CHOICE, log entry 15). -/
def unitItems (m : NeedleMap) (unit : Nat) : List Item := (nth1 m [] unit).flatMap (itemOpt 1)

/-- LOOKUP MAPS (R127). A last strobe record of NONE is an absent optional field (DESIGN CHOICE, log entry 15). -/
def Part.mapsItems (p : Part) : List Item :=
  num 1 p.maps.mode.code ++ num 1 p.maps.origin.code ++ flag p.maps.loadedA ++ flag p.maps.loadedB ++
    optItems p.maps.held ⟨.request, .a⟩ (fun s => num 1 s.source.code ++ num 1 s.map.code) ++
    optItems p.maps.last ⟨.request, .a, .applied, .unready⟩
      (fun r => num 1 r.source.code ++ num 1 r.map.code ++ num 1 r.outcome.code ++ num 1 r.state.code) ++
    num 1 p.par.autoStrobe.code ++ flag p.lines.mapsel

/-! ## Selectors (R150) -/

/-- The selector record (R129). -/
def Selector.items (s : Selector) : List Item :=
  s.state.items ++ optItems s.reported ⟨none, false⟩ Reported.items ++ itemOpt 1 s.latched ++ itemOpt 2 s.skip ++
    flag s.halt

/-- The change request record (R132), with the time left to its deadline in whole milliseconds, rounded down, and 0 for a from position of
UNSURE or of a request not granted yet (DESIGN CHOICE, log entry 15). -/
def ChangeRequest.items (q : ChangeRequest) (now : Nat) : List Item :=
  num 1 q.target ++ num 1 q.origin.code ++ num 1 q.state.code ++ optCode q.state.failure FailKind.code ++
    flag q.occurred ++ flag q.cancelAsked ++ flag q.cancelFinished ++ itemOpt 2 q.changeNo ++ num 1 (q.source.getD 0) ++
    itemOpt 2 q.expected ++ itemOpt 2 (q.deadline.map fun t => (t - now) / 1000)

/-- A head in LOOKUP SELECTORS (R150): the selector record, the request record, the order its next command will carry; that this order
stands inside the head's record is a DESIGN CHOICE (log entry 15). -/
def Part.selectorItems (p : Part) (h : Nat) : List Item :=
  (p.selector h).items ++ (p.changeRequest h).items p.now ++ num 1 (p.selectorOrder h).pair.1 ++
    num 1 (p.selectorOrder h).pair.2

/-- The number of requests of a change in a state. -/
def Part.countRequests (p : Part) (number code : Nat) : Nat :=
  p.arb.requests.countP fun q => decide (q.changeNo = some number ∧ q.state.code = code)

/-- The change record, with the numbers of its requests PENDING, MOVING, DONE, CANCELLED and FAILED (R142, R150). -/
def Part.changeItems (p : Part) (c : ChangeRecord) : List Item :=
  num 2 c.number ++ num 2 c.block ++ num 1 c.slot ++ num 1 c.kind.code ++ flag c.jamStop ++ itemList 1 c.waiting (num 1) ++
    num 1 c.added ++ num 1 c.latched ++ num 1 c.satOut ++ num 1 c.parked ++
    [1, 2, 3, 4, 5].flatMap fun k => num 1 (p.countRequests c.number k)

/-- LOOKUP SELECTORS (R150); the six drive slots stand without a count byte (DESIGN CHOICE, log entry 15). -/
def Part.selectorsItems (p : Part) : List Item :=
  itemList 1 p.fittedHeads p.selectorItems ++ p.arb.slots.flatMap (itemOpt 1) ++
    optItems p.arb.change ⟨0, 0, 0, .colour, false, [], 0, 0, 0, 0, false⟩ p.changeItems

/-! ## Threads, schedule, sensing (R151, R155, R167) -/

/-- A thread record (R151). -/
def Thread.items (t : Thread) : List Item := itemOpt 2 t.colour ++ num 2 t.low ++ num 2 t.high ++ num 1 t.state.code

/-- A sample entry (R155); ALL is 0. -/
def SampleEntry.items (e : SampleEntry) : List Item :=
  num 2 e.angle ++ num 1 (e.head.getD 0) ++ num 1 e.cadence ++ num 1 e.use.code

/-- The schedule (R156). -/
def Part.scheduleItems (p : Part) : List Item := itemList 1 p.mon.schedule SampleEntry.items

/-- A sample of an evaluated span: its value, an optional field absent for MISSING, its use and the verdict (R167; the layout is log
entry 15). -/
def SpanSample.items (s : SpanSample) : List Item := itemOpt 2 s.value ++ num 1 s.use.code ++ num 1 s.verdict.code

/-- The figures of an evaluated span (R167), the verdict GOOD 0 or LOW 1. -/
def spanFigures (o n pulses len e : Nat) (low : Bool) (samples : List SpanSample) : List Item :=
  num 3 o ++ num 1 n ++ num 1 pulses ++ [.s 4 len] ++ num 2 e ++ flag low ++ itemList 1 samples SpanSample.items

/-- The absent figures of a span that was passed over: presence byte 0 and zero bytes (R209). -/
def noFigures : List Item := num 1 0 ++ spanFigures 0 0 0 0 0 false []

/-- The last span: evaluated (0) with its figures, or the reason it was passed over (1 to 5), the figures an optional field
(R167, R209; the layout is log entry 15). -/
def LastSpan.items : LastSpan → List Item
  | .evaluated o n pulses len e low samples => num 1 0 ++ num 1 1 ++ spanFigures o n pulses len e low samples
  | .noReport => num 1 1 ++ noFigures
  | .notSewn => num 1 2 ++ noFigures
  | .held => num 1 3 ++ noFigures
  | .voidSpan => num 1 4 ++ noFigures
  | .notReady => num 1 5 ++ noFigures

/-- LOOKUP SENSING (R167). -/
def Part.sensingItems (p : Part) (h : Nat) : List Item :=
  let s := p.sensing h
  num 1 s.debounce ++ num 1 s.lowRun ++ itemOpt 3 s.firstLow ++ itemOpt 3 (p.head h).bobbin ++
    itemList 1 s.noted (fun e => num 1 e.2 ++ num 3 e.1) ++
    (match s.lastSpan with
     | none => num 1 0 ++ num 1 0 ++ noFigures
     | some l => num 1 1 ++ l.items)

/-! ## Heads and cases (R169, R185) -/

/-- The head record, with the counts other blocks keep (R169). -/
def Part.headItems (p : Part) (h : Nat) : List Item :=
  let r := p.head h
  flag r.enable ++ num 1 r.state.code ++ optCode r.state.cause ParkCause.code ++ num 1 r.latches.byte ++
    num 1 (p.live h).byte ++ num 1 r.mask.byte ++ num 1 r.actions.break_.code ++ num 1 r.actions.tension.code ++
    num 1 r.actions.bobbin.code ++ num 1 r.actions.lost.code ++ num 1 r.actions.jam.code ++ itemOpt 3 r.lastBreak ++
    itemOpt 3 r.bobbin ++ optItems r.button (.parked, 0) (fun b => num 1 b.1.code ++ num 1 b.2) ++
    num 1 (p.link h).missing ++ num 1 (p.sensing h).debounce ++ num 1 (p.sensing h).lowRun

/-- A case record with its number (R185). -/
def Case.items (k : Nat) (r : Case) : List Item :=
  num 1 k ++ num 1 r.head ++ num 1 r.design ++ num 1 r.slot ++ num 3 r.first ++ itemOpt 3 r.last ++ itemOpt 3 r.floor ++
    num 1 r.state.code ++ itemOpt 3 r.progress

/-- Record `k`, or nothing when it is free. -/
def Part.caseItems (p : Part) (k : Nat) : List Item :=
  match p.caseAt k with
  | some r => r.items k
  | none => []

/-- Whether a case comes before another: head, then design, then first ordinal (R194). -/
def Case.before (a b : Case) : Bool :=
  decide (a.head < b.head) || (decide (a.head = b.head) && (decide (a.design < b.design) ||
    (decide (a.design = b.design) && decide (a.first < b.first))))

/-- Insert a numbered case in the order of R194. -/
def insertCase (e : Nat × Case) : List (Nat × Case) → List (Nat × Case)
  | [] => [e]
  | f :: rest => if e.2.before f.2 then e :: f :: rest else f :: insertCase e rest

/-- Every case held, in the order of R194. -/
def Part.heldCases (p : Part) : List (Nat × Case) :=
  (caseNumbers.filterMap fun k => (p.caseAt k).map fun r => (k, r)).foldl (fun l e => insertCase e l) []

/-- LOOKUP CASES (R194). -/
def Part.casesItems (p : Part) : List Item :=
  num 1 (Config.caseCount - p.heldCases.length) ++ itemList 1 p.heldCases fun e => e.2.items e.1

/-! ## Parameters (R212) -/

/-- The parameter record, in the order of R61, then heads_fitted, lost_count, the selector times and the sensing parameters (R212),
and last continue_after_change, start_repeat, stop_line_count, auto_strobe and fault_line_mode, whose place no rule gives (DESIGN
CHOICE, log entry 15). -/
def Params.items (q : Params) : List Item :=
  num 2 q.vMin ++ num 2 q.vMax ++ num 2 q.vJump ++ num 2 q.vStop ++ num 2 q.slew ++ num 2 q.stopSlew ++ num 2 q.fX ++
    num 2 q.fY ++ num 2 q.kX ++ num 2 q.kY ++ num 2 q.fTrav ++ num 2 q.wStart ++ num 2 q.wEnd ++ num 1 q.headsFitted ++
    num 1 q.lostCount ++ num 2 q.selStep ++ num 2 q.selSettle ++ num 2 q.selGrace ++ num 1 q.tensionCount ++
    num 1 q.breakRatio ++ num 1 q.breakCount ++ num 1 q.motionBase ++ num 2 q.motionRate ++
    flag q.continueAfterChange ++ flag q.startRepeat ++ num 2 q.stopLineCount ++ num 1 q.autoStrobe.code ++
    num 1 (if q.follow.isSome then 1 else 0) ++ num 1 (q.follow.getD 0)

end Sys2Proof.Machine
end

