-- ==== Sys2Proof/Machine/FrameRequests.lean ====
section
/-! DEFINITION. The requests of the frame positioner (chapter 2, codes 0x20 to 0x24) and the events of the frame: home sensor
edges, a home search that fails, the completion of a sub-move and of a leg. -/

namespace Sys2Proof.Machine

/-- How HOME and JOG are refused outside UNREADY (R36, R37); STATE in REPAIRING, on the legs of a repair run too (DESIGN CHOICE, log entry
56). -/
def CtlState.refusesHoming : CtlState → Option Status
  | .unready => none
  | .locked => some .locked
  | .traversing => some .busy
  | _ => some .state

/-- Whether the active design's placement fits a field; true with no active design (R27, R33). -/
def Part.placementFits (p : Part) (hoop : Box) : Bool :=
  match p.activeDesign, p.pos.placement with
  | some x, some pl =>
    match x.derived with
    | some v => pl.fits p.par v.extent hoop
    | none => true
  | _, _ => true

/-- The conditions of a new hoop field (R27). -/
def Part.hoopOk (p : Part) (b : Box) : Bool :=
  b.inside Box.whole && decide (b.minX ≤ b.maxX) && decide (b.minY ≤ b.maxY) && b.contains Vec.zero &&
    (!p.pos.homed || b.contains p.pos.n) && p.placementFits b

/-- AMEND HOOP (R27). -/
def Part.amendHoop (p0 : Part) (b : Box) : Reply :=
  match p0.ctl.state with
  | .traversing => (p0, .busy, p0.pos.hoop.items)
  | .locked => (p0, .locked, p0.pos.hoop.items)
  | _ =>
    let p := p0.observe
    if b.inside Box.whole && p.hoopOk b then ({ p with pos := { p.pos with hoop := b } }, .done, b.items)
    else (p, .range, p.pos.hoop.items)

/-- HOME (R36). -/
def Part.takeHome (p : Part) : Reply :=
  match p.ctl.state.refusesHoming with
  | some st => (p, st, [])
  | none => ((p.enterTraversing (Travel.plain .home (.frame Vec.zero))).startSearch, .taken, [])

/-- The clamped target of a JOG (R37). -/
def Part.jogTarget (p : Part) (relative : Bool) (v : Vec) : Vec :=
  let t := if relative then p.pos.n.add v else v
  ⟨clampInt p.pos.hoop.minX p.pos.hoop.maxX t.x, clampInt p.pos.hoop.minY p.pos.hoop.maxY t.y⟩

/-- JOG (R37); to the present position it completes at once. RANGE for its mode before NOT_HOMED (DESIGN CHOICE, log entry 14). -/
def Part.takeJog (p : Part) (mode : Nat) (v : Vec) : Reply :=
  match p.ctl.state.refusesHoming with
  | some st => (p, st, [])
  | none =>
    match jogMode? mode with
    | none => (p, .range, [])
    | some relative =>
      if !p.pos.homed then (p, .notHomed, [])
      else
        let t := p.jogTarget relative v
        if t = p.pos.n then (p.enterUnready.notice .stopped, .taken, itemVec t)
        else ((p.enterTraversing (Travel.plain .jog (.frame t))).startLeg t, .taken, itemVec t)

/-- An edge of a home sensor, and the end of the search when both axes have found theirs (R36). -/
def Part.sensorEdge (p : Part) (axis : Axis) (active : Bool) : Part :=
  let p1 := p.homeEdge axis active
  if p1.pos.bothFound then ({ p1 with pos := p1.pos.homeFound } : Part).searchDone else p1

/-- The leg in progress, if there is one. -/
def Positioner.leg (q : Positioner) : Option Move :=
  match q.move with
  | some m => if m.kind = .leg && !m.interrupted then some m else none
  | none => none

/-! ## The meanings -/

/-- AMEND HOOP (R27). -/
def execAmendHoop (xMin xMax yMin yMax : Int) (s : State) : Result State :=
  s.request 0x20 fun p => p.amendHoop ⟨xMin, xMax, yMin, yMax⟩
/-- LOOKUP HOOP (R27). -/
def execLookupHoop (s : State) : Result State := s.request 0x21 fun p => (p, .done, p.pos.hoop.items)
/-- HOME (R36). -/
def execHome (s : State) : Result State := s.request 0x22 fun p => p.takeHome
/-- JOG (R37). -/
def execJog (mode : Nat) (x y : Int) (s : State) : Result State := s.request 0x23 fun p => p.takeJog mode ⟨x, y⟩
/-- LOOKUP FRAME (R42): N is the count at this moment. -/
def execLookupFrame (s : State) : Result State := s.request 0x24 fun p => (p.observe, .done, p.observe.frameItems)

/-- HOME_SENSOR_EDGE (R36): the sensors are active low. -/
def execHomeSensorEdge (axis : Axis) (active : Bool) (s : State) : Result State :=
  s.lineEvent
    (fun l => match axis with
      | .x => { l with xHome := !active }
      | .y => { l with yHome := !active })
    fun p => p.sensorEdge axis active
/-- HOME_NOT_FOUND (R36): an axis has emitted 1,048,576 pulses of its negative run. -/
def execHomeNotFound (axis : Axis) (s : State) : Result State :=
  s.event fun p => if p.pos.seekingOn axis then (p.homeMissed axis).searchDone else p
/-- SUB_MOVE_COMPLETE (R34, R52). -/
def execSubMoveComplete (s : State) : Result State := s.event fun p => p.subMoveComplete
/-- TRAVERSE_LEG_COMPLETE (R35). -/
def execTraverseLegComplete (s : State) : Result State :=
  s.event fun p =>
    match p.pos.leg with
    | some m => ({ p with pos := p.pos.arrive m.target } : Part).legDone
    | none => p

end Sys2Proof.Machine
end

