-- ==== Sys2Proof/Machine/HeadRequests.lean ====
section
/-! DEFINITION. The requests of the head table (chapter 9, codes 0x80 to 0x86) and of the case table (chapter 10, codes 0x90
to 0x92), and LOST as an event. -/

namespace Sys2Proof.Machine

/-- The fields of AMEND HEAD, decoded (R183). -/
structure HeadGiven where
  enable : Option Bool
  mask : Option KindSet
  onBreak : Option FaultAction
  onTension : Option FaultAction
  onBobbin : Option FaultAction
  onLost : Option FaultAction
  onJam : Option FaultAction
  bobbin : Option (Option Nat)
  deriving DecidableEq, Repr

/-- The fields of AMEND HEAD, or none when one is outside its encoding, an action is not allowed for its kind or a bobbin value
is out of range (R172, R183). -/
def headGiven? (f : HeadFields) : Option HeadGiven :=
  match givenVia? flag? f.enable, givenVia? kinds? f.mask, givenVia? stopOrPark? f.onBreak, givenVia? action? f.onTension,
    givenVia? stopOrPark? f.onBobbin, givenVia? stopOrPark? f.onLost, givenVia? stopOrPark? f.onJam,
    givenOpt? f.bobbin with
  | some e, some m, some a, some b, some c, some d, some j, some k =>
    match k with
    | some (some v) => if v ≤ 16777215 then some ⟨e, m, a, b, c, d, j, k⟩ else none
    | _ => some ⟨e, m, a, b, c, d, j, k⟩
  | _, _, _, _, _, _, _, _ => none

/-- The head record with mask, actions and bobbin amended (R183). -/
def Head.amend (r : Head) (g : HeadGiven) : Head :=
  { r with
    mask := g.mask.getD r.mask
    actions :=
      { break_ := g.onBreak.getD r.actions.break_, tension := g.onTension.getD r.actions.tension
        bobbin := g.onBobbin.getD r.actions.bobbin, lost := g.onLost.getD r.actions.lost
        jam := g.onJam.getD r.actions.jam }
    bobbin := g.bobbin.getD r.bobbin }

/-- Whether the request changes the enable of a head. -/
def Part.changesEnable (p : Part) (h : Nat) (g : HeadGiven) : Bool :=
  match g.enable with
  | some b => decide (b ≠ (p.head h).enable)
  | none => false

/-- The enable given is stored, with what R170 makes of a change. -/
def Part.amendEnable (p : Part) (h : Nat) (g : HeadGiven) : Part :=
  if p.changesEnable h g then (if (p.head h).enable then p.disableHead h else p.enableHead h) else p

/-- Whether a head is the repaired head while the controller is REPAIRING (R170). -/
def Part.isRepaired (p : Part) (h : Nat) : Bool :=
  match p.repairing with
  | some r => decide (r.head = h)
  | none => false

/-- AMEND HEAD (R170, R172, R183): RANGE before BUSY (DESIGN CHOICE, log entry 14). -/
def Part.amendHead (p : Part) (h : Nat) (f : HeadFields) : Reply :=
  if !isHead h then (p, .range, [])
  else
    match headGiven? f with
    | none => (p, .range, p.headItems h)
    | some g =>
      if p.changesEnable h g && p.isRepaired h then (p, .busy, p.headItems h)
      else
        let p' := (p.setHead h ((p.head h).amend g)).amendEnable h g
        (p', .done, p'.headItems h)

/-- AMEND CLEAR_FAULTS (R182). -/
def Part.clearFaults (p : Part) (h kinds : Nat) : Reply :=
  if !isHead h then (p, .range, [])
  else
    match kinds? kinds with
    | none => (p, .range, p.headItems h)
    | some ks =>
      let p' := p.setHead h { p.head h with latches := (p.head h).latches.minus ks }
      (p', .done, p'.headItems h)

/-- A JAMMED selector is set by its last reported position (R147). -/
def Part.unjam (p : Part) (h : Nat) : Part :=
  if (p.selector h).state = .jammed then
    match (p.selector h).reported with
    | some ⟨some n, false⟩ => p.restSelector h n
    | _ => p.setSelector h { p.selector h with state := .unsure }
  else p

/-- AMEND CLEAR_JAM (R147, R182). -/
def Part.clearJam (p : Part) (h : Nat) : Reply :=
  if !isHead h then (p, .range, [])
  else
    let p' := (p.setHead h { p.head h with latches := (p.head h).latches.put false .jam }).unjam h
    (p', .done, p'.headItems h)

/-- How PARK and RESTORE_HEAD are refused by the controller's state (R180, R181). -/
def CtlState.refusesPark : CtlState → Option Status
  | .locked => some .locked
  | .repairing => some .busy
  | _ => none

/-- PARK (R180). -/
def Part.parkRequest (p : Part) (h : Nat) : Reply :=
  if !isHead h then (p, .range, [])
  else
    match p.ctl.state.refusesPark with
    | some st => (p, st, p.headItems h)
    | none =>
      if p.isActive h then (p.parkHead h .operator none, .done, (p.parkHead h .operator none).headItems h)
      else (p, .state, p.headItems h)

/-- RESTORE_HEAD (R181). -/
def Part.restoreRequest (p : Part) (h : Nat) : Reply :=
  if !isHead h then (p, .range, [])
  else
    match p.ctl.state.refusesPark with
    | some st => (p, st, p.headItems h)
    | none => if p.mayRestore h then (p.restore h, .done, (p.restore h).headItems h) else (p, .state, p.headItems h)

/-- RETIRE CASE (R194). -/
def Part.retireCaseRequest (p : Part) (k : Nat) : Reply :=
  if Config.caseCount ≤ k then (p, .range, [])
  else
    match p.caseAt k with
    | none => (p, .noRecord, [])
    | some r =>
      match r.state with
      | .isOpen | .repairing => (p, .state, r.items k)
      | .closed | .mended => (p.setCase k none, .done, [])

/-- LOOKUP CASE (R194). -/
def Part.lookupCase (p : Part) (k : Nat) : Reply :=
  if Config.caseCount ≤ k then (p, .range, [])
  else
    match p.caseAt k with
    | none => (p, .noRecord, [])
    | some r => (p, .done, r.items k)

/-- LOST as an event of its own: the missing-report count reaches lost_count and LOST is raised, for a fitted head that is not
DISABLED and whose count was below lost_count; with the count there, LOST waits for a valid report (R81, log entry 8). -/
def Part.lostEvent (p : Part) (h : Nat) : Part :=
  if isHead h && decide (h ≤ p.par.headsFitted) && decide ((p.head h).state ≠ .disabled) &&
      decide ((p.link h).missing < p.par.lostCount) then
    (p.setLink h { p.link h with missing := p.par.lostCount }).raiseLost h
  else p

/-! ## The meanings -/

/-- AMEND HEAD (R183). -/
def execAmendHead (h : Nat) (fields : HeadFields) (s : State) : Result State :=
  s.request 0x80 fun p => p.amendHead h fields
/-- AMEND CLEAR_FAULTS (R182). -/
def execAmendClearFaults (h kinds : Nat) (s : State) : Result State := s.request 0x81 fun p => p.clearFaults h kinds
/-- AMEND CLEAR_JAM (R182). -/
def execAmendClearJam (h : Nat) (s : State) : Result State := s.request 0x82 fun p => p.clearJam h
/-- PARK (R180). -/
def execPark (h : Nat) (s : State) : Result State := s.request 0x83 fun p => p.parkRequest h
/-- RESTORE_HEAD (R181). -/
def execRestoreHead (h : Nat) (s : State) : Result State := s.request 0x84 fun p => p.restoreRequest h
/-- LOOKUP HEAD (R183). -/
def execLookupHead (h : Nat) (s : State) : Result State :=
  s.request 0x85 fun p => if isHead h then (p, .done, p.headItems h) else (p, .range, [])
/-- LOOKUP HEADS (R183). -/
def execLookupHeads (s : State) : Result State := s.request 0x86 fun p => (p, .done, itemList 1 p.fittedHeads p.headItems)
/-- RETIRE CASE (R194). -/
def execRetireCase (k : Nat) (s : State) : Result State := s.request 0x90 fun p => p.retireCaseRequest k
/-- LOOKUP CASE (R194). -/
def execLookupCase (k : Nat) (s : State) : Result State := s.request 0x91 fun p => p.lookupCase k
/-- LOOKUP CASES (R194). -/
def execLookupCases (s : State) : Result State := s.request 0x92 fun p => (p, .done, p.casesItems)

/-- LOST (R81, R177). -/
def execLost (h : Nat) (s : State) : Result State := s.event fun p => p.lostEvent h

end Sys2Proof.Machine
end

