-- ==== Sys2Proof/Machine/LibraryRequests.lean ====
section
/-! DEFINITION. The requests of the design library (sections 1.4 to 1.7, R211 codes 0x10 to 0x1B) and the completion of a
seal. Where no order of checks is given: the design and run named first (RANGE), then the state, then the other fields
(RANGE), then the pools (log entry 14). -/

namespace Sys2Proof.Machine

/-- The design record of `d` as a payload. -/
def Part.designItems (p : Part) (d : Nat) : List Item := (p.lib.design d).items

/-- Answer with the design record as it stands (R210). -/
def Part.replyDesign (p : Part) (d : Nat) (st : Status) : Reply := (p, st, p.designItems d)

/-- Store design `d` and answer with its record. -/
def Part.storeDesign (p : Part) (d : Nat) (x : Design) (st : Status) : Reply :=
  ({ p with lib := p.lib.setDesign d x } : Part).replyDesign d st

/-- OPEN_DESIGN (R5). -/
def Part.openDesign (p : Part) (d : Nat) : Reply :=
  if !isDesign d then (p, .range, [])
  else if (p.lib.design d).state ≠ .empty then p.replyDesign d .state
  else p.storeDesign d { Design.reset with state := .loading } .done

/-- PUT_STITCHES (R6, R7, R216). -/
def Part.putStitches (p : Part) (d format count : Nat) (records : List RawStitch) : Reply :=
  if !isDesign d then (p, .range, [])
  else if (p.lib.design d).state ≠ .loading then p.replyDesign d .state
  else
    match stitchFormat? format with
    | none => p.replyDesign d .range
    | some (most, bound) =>
      if count = 0 ∨ most < count then p.replyDesign d .range
      else
        let (l, st, stored) := p.lib.append d bound records 0
        let p' : Part := { p with lib := l }
        (p', st, num 1 stored ++ p'.designItems d)

/-- The descriptor PUT_RUN gives, when its fields lie in their ranges (R8). -/
def runOf? (f : RunFields) : Option Run :=
  match optField? f.endShift, optField? f.next, flag? f.haltAfter, flag? f.trimAfter with
  | some e, some n, some h, some t =>
    let shiftOk := match e with
      | some v => within (-32767) 32767 v.1 && within (-32767) 32767 v.2
      | none => true
    let nextOk := match n with
      | some k => isRun k
      | none => true
    if 1 ≤ f.length ∧ f.length ≤ 4096 ∧ 1 ≤ f.passes ∧ f.passes ≤ 255 ∧ shiftOk = true ∧ nextOk = true then
      some
        { first := f.first, length := f.length, passes := f.passes, slot := f.slot
          endShift := e.map fun v => ⟨v.1, v.2⟩, next := n, haltAfter := h, trimAfter := t }
    else none
  | _, _, _, _ => none

/-- PUT_RUN (R8): a first write of the index claims a descriptor (R4). -/
def Part.putRun (p : Part) (d r : Nat) (f : RunFields) : Reply :=
  if !isDesign d then (p, .range, [])
  else if !isRun r then p.replyDesign d .range
  else if (p.lib.design d).state ≠ .loading then p.replyDesign d .state
  else
    match runOf? f with
    | none => p.replyDesign d .range
    | some run =>
      let x := p.lib.design d
      let isNew := (lookupKey r x.runs).isNone
      if isNew ∧ p.lib.freeRuns = 0 then p.replyDesign d .full
      else
        let l := { p.lib with freeRuns := if isNew then p.lib.freeRuns - 1 else p.lib.freeRuns }
        ({ p with lib := l } : Part).storeDesign d { x with runs := insertKey r run x.runs } .done

/-- RETIRE RUN (R9). -/
def Part.retireRun (p : Part) (d r : Nat) : Reply :=
  if !isDesign d then (p, .range, [])
  else if !isRun r then p.replyDesign d .range
  else if (p.lib.design d).state ≠ .loading then p.replyDesign d .state
  else
    let x := p.lib.design d
    if (lookupKey r x.runs).isNone then p.replyDesign d .noRecord
    else
      ({ p with lib := { p.lib with freeRuns := p.lib.freeRuns + 1 } } : Part).storeDesign d
        { x with runs := eraseKey r x.runs } .done

/-- The slots and colour codes of AMEND DESIGN, when each lies in its range (R10). -/
def slotColours? : List SlotColour → Option (List (Nat × Option Nat))
  | [] => some []
  | c :: rest =>
    match optField? c.colour, slotColours? rest with
    | some v, some l => if isSlot c.slot then some ((c.slot, v) :: l) else none
    | _, _ => none

/-- AMEND DESIGN (R10). Of a slot named twice the last colour stays, and a request that gives neither a start run nor a colour code is
answered DONE with nothing changed (DESIGN CHOICE, log entry 50). -/
def Part.amendDesign (p : Part) (d : Nat) (startRun : Given Nat) (colours : List SlotColour) : Reply :=
  if !isDesign d then (p, .range, [])
  else
    let x := p.lib.design d
    if x.state = .empty ∨ (startRun.sel = 1 ∧ x.state ≠ .loading) then p.replyDesign d .state
    else
      match given? startRun, slotColours? colours with
      | some s, some cs =>
        if (s.getD 0) < 512 then
          p.storeDesign d
            { x with startRun := s.getD x.startRun, slots := cs.foldl (fun t e => set1 t e.1 e.2) x.slots } .done
        else p.replyDesign d .range
      | _, _ => p.replyDesign d .range

/-- SEAL (R13); TAKEN carries the design record (DESIGN CHOICE, log entry 49). -/
def Part.sealRequest (p : Part) (d : Nat) : Reply :=
  if !isDesign d then (p, .range, [])
  else if (p.lib.design d).state ≠ .loading then p.replyDesign d .state
  else if p.lib.sealer.isSome then p.replyDesign d .busy
  else
    ({ p with lib := { p.lib with sealer := some d } } : Part).storeDesign d { p.lib.design d with state := .sealing }
      .taken

/-- RETIRE DESIGN (R19, R20, R195). -/
def Part.retireDesign (p : Part) (d discard : Nat) : Reply :=
  if !isDesign d then (p, .range, [])
  else
    match (p.lib.design d).state with
    | .empty => p.replyDesign d .noRecord
    | .active => p.replyDesign d .state
    | _ =>
      match flag? discard with
      | none => p.replyDesign d .range
      | some drop =>
        if p.casesName d && !drop then p.replyDesign d .cases
        else ({ p.discardCases d fun _ => true with lib := p.lib.retire d } : Part).replyDesign d .done

/-- LOOKUP RUN (R24). A refusal carries the design record it names (R210, log entry 49). -/
def Part.lookupRun (p : Part) (d r : Nat) : Reply :=
  if !isDesign d then (p, .range, [])
  else if !isRun r then p.replyDesign d .range
  else
    let x := p.lib.design d
    match lookupKey r x.runs with
    | none => p.replyDesign d .noRecord
    | some run =>
      (p, .done, run.items ((x.derived.bind fun v => v.chain.find? fun e => decide (e.run = r))))

/-- LOOKUP STITCHES (R24). A refusal carries the design record it names (R210, log entry 49). -/
def Part.lookupStitches (p : Part) (d i n : Nat) : Reply :=
  if !isDesign d then (p, .range, [])
  else
    let x := p.lib.design d
    if n = 0 ∨ 64 < n ∨ x.count < i + n then p.replyDesign d .range
    else (p, .done, itemList 1 ((List.range n).map fun j => p.lib.stitch x (i + j)) fun v => [v.item])

/-- LOOKUP ORDINAL (R23, R24). A refusal carries the design record it names (R210, log entry 49). -/
def Part.lookupOrdinal (p : Part) (d o : Nat) : Reply :=
  if !isDesign d then (p, .range, [])
  else
    let x := p.lib.design d
    match x.state with
    | .sealed | .active =>
      match p.lib.serve x o with
      | some sv => (p, .done, sv.items)
      | none => p.replyDesign d .range
    | _ => p.replyDesign d .state

/-! ## The meanings -/

/-- OPEN_DESIGN (R5). -/
def execOpenDesign (d : Nat) (s : State) : Result State := s.request 0x10 fun p => p.openDesign d
/-- PUT_STITCHES (R6, R7). -/
def execPutStitches (d format count : Nat) (records : List RawStitch) (s : State) : Result State :=
  s.request 0x11 fun p => p.putStitches d format count records
/-- PUT_RUN (R8). -/
def execPutRun (d r : Nat) (fields : RunFields) (s : State) : Result State :=
  s.request 0x12 fun p => p.putRun d r fields
/-- RETIRE RUN (R9). -/
def execRetireRun (d r : Nat) (s : State) : Result State := s.request 0x13 fun p => p.retireRun d r
/-- AMEND DESIGN (R10). -/
def execAmendDesign (d : Nat) (startRun : Given Nat) (colours : List SlotColour) (s : State) : Result State :=
  s.request 0x14 fun p => p.amendDesign d startRun colours
/-- SEAL (R13). -/
def execSeal (d : Nat) (s : State) : Result State := s.request 0x15 fun p => p.sealRequest d
/-- RETIRE DESIGN (R19, R20). -/
def execRetireDesign (d discard : Nat) (s : State) : Result State := s.request 0x16 fun p => p.retireDesign d discard
/-- LOOKUP DESIGN (R24). -/
def execLookupDesign (d : Nat) (s : State) : Result State :=
  s.request 0x17 fun p => if isDesign d then p.replyDesign d .done else (p, .range, [])
/-- LOOKUP RUN (R24). -/
def execLookupRun (d r : Nat) (s : State) : Result State := s.request 0x18 fun p => p.lookupRun d r
/-- LOOKUP STITCHES (R24). -/
def execLookupStitches (d i n : Nat) (s : State) : Result State := s.request 0x19 fun p => p.lookupStitches d i n
/-- LOOKUP ORDINAL (R24). -/
def execLookupOrdinal (d o : Nat) (s : State) : Result State := s.request 0x1A fun p => p.lookupOrdinal d o
/-- LOOKUP LIBRARY (R24). -/
def execLookupLibrary (s : State) : Result State := s.request 0x1B fun p => (p, .done, p.lib.items)

/-- SEAL_COMPLETE (R17): the seal in flight ends, with the SEALED notice. -/
def execSealComplete (s : State) : Result State :=
  s.event fun p =>
    match p.lib.sealer with
    | some d => ({ p with lib := p.lib.completeSeal d } : Part).notice .sealed
    | none => p

end Sys2Proof.Machine
end

