-- ==== Sys2Proof/Machine/LinkEvents.lean ====
section
/-! DEFINITION. The transactions of the link that are no well-formed request (R205 to R207), the RESET line (R214), and the
events of the shaft and of the head chain. -/

namespace Sys2Proof.Machine

/-! ## The link and the RESET line -/

/-- FETCH of `bytes` whole bytes (R205, R207): with READY high the held response is shifted out and stays held; with READY low
SDO carries zeros; a transaction without a whole byte, or in reset, is ignored. -/
def execFetch (bytes : Nat) (s : State) : Result State :=
  s.event fun p =>
    if bytes = 0 then p
    else
      { p with
        port := { p.port with sdo := if p.port.ready then p.port.shifted bytes else List.replicate bytes 0#8 } }

/-- MALFORMED_FRAME (R206): answered MALFORMED with an empty payload and byte 0 as received. -/
def execMalformedFrame (code : Nat) (s : State) : Result State := s.request code fun p => (p, .malformed, [])

/-- RESET_ASSERT (R214): READY is low and the outputs are at rest while the line is low. -/
def execResetAssert (s : State) : Result State :=
  .next
    { s with
      part := { s.part with
        port := { s.part.port with inReset := true, ready := false, sdo := [] }
        pos := { s.part.pos with dirX := false, dirY := false }
        shaft := s.part.shaft.disable
        chain := { s.part.chain with out := [] } } }

/-- The part when RESET has risen: every block at its reset value; the input lines are the outside's, and LOCKED when ESTOP is
low (R105, R214). -/
def Part.released (p : Part) : Part := ({ Part.reset with lines := p.lines, free := p.free } : Part).lockIfEstop

/-- RESET_RELEASE (R214): the rise that ends a reset. -/
def execResetRelease (s : State) : Result State :=
  if s.part.port.inReset then .next { s with part := s.part.released } else .next s

/-! ## The shaft -/

/-- ENCODER_COUNT (R65 to R69): the new levels of the encoder lines and the microseconds since the clock was last moved. The
levels are followed in reset too. -/
def execEncoderCount (a b i : Bool) (elapsed : Nat) (s : State) : Result State :=
  State.event
    { s with
      part := { s.part with
        lines := { s.part.lines with encA := a, encB := b, encI := i }, now := s.part.now + elapsed } }
    fun p => p.encoderChange (pairChange s.part.lines.encA s.part.lines.encB a b) i

/-- DRV_FLT_FALL (R72): with the drive enabled DRV_EN falls at once and the drive fault locks the controller. -/
def execDrvFltFall (s : State) : Result State :=
  s.lineEvent (fun l => { l with drvFlt := false }) fun p =>
    if p.shaft.drive = .disabled then p else p.disableDrive.lock .drive

/-- SHAFT_STANDING (R68, R158): 100 ms after the last count; every open span is void. -/
def execShaftStanding (s : State) : Result State :=
  s.event fun p =>
    if p.shaft.standing then p
    else
      let q := p.atLeast (p.shaft.lastCount + 100000)
      { q with shaft := q.shaft.stand, chain := { q.chain with openVoid := true } }

/-- Whether positioning can complete now, DRV_POS being high (R71). -/
def Shaft.mayComplete (q : Shaft) : Bool :=
  decide (q.drive = .positioning) && q.standing && q.synced && needleUp q.angle

/-- The needle-up report (R71): it ends a stop of the sewing (R99) or the SEWING of a repair run (R200). -/
def Part.needleUpReport (p : Part) : Part :=
  match p.repairSewing with
  | some r => if r.stopReached then p.repairStopped r else p
  | none => if p.ctl.state = .stopping ∧ p.ctl.phase = some .settling then p.endStop else p

/-- POSITIONING_COMPLETE (R71): DRV_POS is high. -/
def execPositioningComplete (s : State) : Result State :=
  s.lineEvent (fun l => { l with drvPos := true }) fun p =>
    if p.shaft.mayComplete then ({ p with shaft := p.shaft.positioned } : Part).needleUpReport else p

/-- POSITIONING_TIMEOUT (R71): 2 s after the start of positioning. -/
def execPositioningTimeout (s : State) : Result State :=
  s.event fun p =>
    if p.shaft.drive = .positioning then (p.atLeast (p.shaft.posSince.getD p.now + 2000000)).lock .positioning else p

/-- INDEX_WATCH_TRIP (R67): the index count has exceeded 1,100 while DRV_EN is high. -/
def execIndexWatchTrip (s : State) : Result State :=
  s.event fun p => if p.shaft.drive = .disabled then p else p.indexTrip

/-- REVERSE_WATCH_TRIP (R67): the reverse run has exceeded 32 while DRV_EN is high. -/
def execReverseWatchTrip (s : State) : Result State :=
  s.event fun p => if p.shaft.drive = .disabled then p else p.reverseTrip

/-! ## The head chain -/

/-- HEAD_REPORT (R75, R79 to R81): a frame in the present reply slot. -/
def execHeadReport (frame : List Byte) (s : State) : Result State := s.event fun p => p.receive frame
/-- REPLY_SLOT_END (R217): the present reply slot ends without a report. -/
def execReplySlotEnd (anyByte : Bool) (s : State) : Result State := s.event fun p => p.slotEnd anyByte
/-- IDLE_EXCHANGE (R74). -/
def execIdleExchange (s : State) : Result State := s.event fun p => p.idleExchange

end Sys2Proof.Machine
end

