-- ==== Sys2Proof/Machine/MachineRequests.lean ====
section
/-! DEFINITION. The requests of the run controller (chapter 5, codes 0x30 to 0x3C), the lookups of planner, shaft monitor and
head chain (0x40 to 0x42), and the operator and emergency lines. -/

namespace Sys2Proof.Machine

/-- How the requests taken in READY only are refused elsewhere: BUSY in TRAVERSING, LOCKED in LOCKED, STATE in the others
(R88, R89, R101, R103, R107). -/
def CtlState.refusesReady : CtlState → Option Status
  | .ready => none
  | .traversing => some .busy
  | .locked => some .locked
  | _ => some .state

/-- AMEND MACHINE (R51, R109): N is looked at for the record. -/
def Part.amendMachine (p0 : Part) (speed : Given Nat) : Reply :=
  let p := p0.observe
  match given? speed with
  | none => (p, .range, p.machineItems)
  | some none => (p, .done, p.machineItems)
  | some (some v) =>
    let r := clampNat p.par.vMin p.par.vMax v
    let p1 : Part :=
      { p with
        plan := { p.plan with requested := r, vSet := if p.ctl.state.followsSpeed then r else p.plan.vSet } }
    (p1, .done, p1.machineItems)

/-- The placement of ACTIVATE by R25: orientation, mirror and origin in range, the scales clamped. -/
def placement? (ox oy : Int) (orientation mirror scaleX scaleY : Nat) : Option Placement :=
  match orientation? orientation, mirror? mirror with
  | some o, some m =>
    if within (-Config.span) Config.span ox && within (-Config.span) Config.span oy then
      some ⟨⟨ox, oy⟩, o, m, clampNat 512 2048 scaleX, clampNat 512 2048 scaleY⟩
    else none
  | _, _ => none

/-- How ACTIVATE is refused by the controller's state (R86, check 1). -/
def CtlState.refusesActivate : CtlState → Option Status
  | .unready | .ready => none
  | .traversing => some .busy
  | .locked => some .locked
  | _ => some .state

/-- DISCARD retires the live cases of the present active design (R195). -/
def Part.discardActive (p : Part) (drop : Bool) : Part :=
  match p.ctl.design with
  | some d => if drop then p.discardCases d CaseState.isLive else p
  | none => p

/-- Whether live cases name the present active design. -/
def Part.activeCases (p : Part) : Bool :=
  match p.ctl.design with
  | some d => p.casesName d
  | none => false

/-- The library takes `d` to ACTIVE and the design that was active to SEALED (R1). -/
def Part.activateDesign (p : Part) (d : Nat) : Part :=
  let l := match p.ctl.design with
    | some k => p.lib.setState k .sealed
    | none => p.lib
  { p with lib := l.setState d .active }

/-- A taken ACTIVATE, when every check has passed (R86). -/
def Part.takeActivate (p0 : Part) (d : Nat) (v : Derived) (pl : Placement) (drop : Bool) : Part :=
  let p := ((p0.discardActive drop).activateDesign d).clearSkips
  let p1 : Part :=
    { p with
      pos := { p.pos with placement := some pl, p := some Vec.zero, plan := none }
      ctl := { p.ctl with
        design := some d, c := some 0, slot := v.blocks.head?.map Block.slot, cause := .none, armed := false } }
  (p1.enterTraversing (Travel.plain .activate (.frame pl.origin))).startLeg pl.origin

/-- ACTIVATE: the checks in the order of R86. -/
def Part.activate (p : Part) (d : Nat) (pl : Option Placement) (discard : Nat) : Reply :=
  match p.ctl.state.refusesActivate with
  | some st => (p, st, if isDesign d then p.lib.design d |>.items else [])
  | none =>
    if !isDesign d then (p, .range, [])
    else
      let items := (p.lib.design d).items
      match (p.lib.design d).state, (p.lib.design d).derived with
      | .sealed, some v =>
        if p.activeCases && decide (discard ≠ 1) then (p, .cases, items)
        else
          match pl, flag? discard with
          | some q, some drop =>
            if !p.pos.homed then (p, .notHomed, items)
            else if !q.fits p.par v.extent p.pos.hoop then (p, .range, items)
            else (p.takeActivate d v q drop, .taken, q.items)
          | _, _ => (p, .range, items)
      | _, _ => (p, .state, items)

/-- DEACTIVATE (R88): the library, the positioner, the controller. -/
def Part.takeDeactivate (p0 : Part) (drop : Bool) : Part :=
  let p := (p0.discardActive drop).clearSkips
  let l := match p.ctl.design with
    | some k => p.lib.setState k .sealed
    | none => p.lib
  let p1 : Part :=
    { p with
      lib := l
      pos := { p.pos with placement := none, p := none, plan := none }
      ctl := { p.ctl with design := none, c := none, slot := none, armed := false } }
  p1.enterUnready

/-- DEACTIVATE: the checks of R88; done, it answers with the machine record (R210). -/
def Part.deactivate (p : Part) (discard : Nat) : Reply :=
  match p.ctl.state.refusesReady with
  | some st => (p, st, [])
  | none =>
    match flag? discard with
    | none => (p, .range, [])
    | some drop => if p.activeCases && !drop then (p, .cases, [])
      else (p.takeDeactivate drop, .done, (p.takeDeactivate drop).machineItems)

/-- c = T: nothing is left to sew (R89). -/
def Part.atEnd (p : Part) : Bool := decide (p.cur = (p.activeDesign.map Design.total).getD 0)

/-- START (R89): the response carries the state entered. -/
def Part.startRequest (p : Part) : Reply :=
  match p.ctl.state.refusesReady with
  | some st => (p, st, [])
  | none =>
    if p.atEnd then (p, .state, [])
    else (p.takeStart, .taken, num 1 p.takeStart.ctl.state.code)

/-- The armed flag is set or cleared (R90). -/
def Part.setArmed (p : Part) (b : Bool) : Part := { p with ctl := { p.ctl with armed := b } }

/-- ARM (R90); done, it answers with the machine record (R210). -/
def Part.arm (p : Part) (on : Nat) : Reply :=
  match p.ctl.state with
  | .ready | .changing =>
    match flag? on with
    | none => (p, .range, [])
    | some b => (p.setArmed b, .done, (p.setArmed b).machineItems)
  | .locked => (p, .locked, [])
  | _ => (p, .state, [])

/-- STOP (R95); done, it answers with the chosen stop ordinal of a count stop, if there is one, and the machine record as it now
stands (R210; DESIGN CHOICE, log entry 49), for which N is read anew during a move. -/
def Part.stopRequest (p : Part) (n : Nat) : Reply :=
  let r := p.orderStop n .stop .count
  match r.2.1 with
  | .done =>
    let q := r.1.observe
    (q, .done, ((r.2.2.map (num 3)).getD []) ++ q.machineItems)
  | st => (r.1, st, [])

/-- The target of BACK or FWD, clamped to the current colour block (R101). -/
def Part.travelTarget (p : Part) (forward : Bool) (n : Nat) : Nat :=
  match p.currentBlock with
  | none => p.cur
  | some b => if forward then min (p.cur + n) (b.last + 1) else max (p.cur - n) b.first

/-- BACK and FWD (R101). -/
def Part.travel (p : Part) (forward : Bool) (n : Nat) : Reply :=
  match p.ctl.state.refusesReady with
  | some st => (p, st, [])
  | none =>
    let t := p.travelTarget forward n
    if t = p.cur then (p, .done, num 3 t)
    else
      ((p.enterTraversing (Travel.plain (if forward then .fwd else .back) (.ordinal t))).startStep forward, .taken,
        num 3 t)

/-- REWIND (R103); TAKEN carries nothing (DESIGN CHOICE, log entry 49), a DISCARD that is no flag is RANGE before CASES (log entry 14). -/
def Part.rewind (p : Part) (discard : Nat) : Reply :=
  match p.ctl.state.refusesReady with
  | some st => (p, st, [])
  | none =>
    if ¬(p.ctl.cause = .designEnd ∨ p.atEnd = true) then (p, .state, [])
    else
      match flag? discard with
      | none => (p, .range, [])
      | some drop =>
        if p.activeCases && !drop then (p, .cases, [])
        else
          let p1 := (p.discardActive drop).clearSkips
          let p2 := p1.startNetLeg 0
          let t := match p2.pos.move with
            | some m => m.target
            | none => p2.pos.n
          (p2.enterTraversing (Travel.plain .rewind (.frame t)), .taken, [])

/-- CLEAR (R106): done at once, it answers with the machine record (R210). -/
def Part.clearRequest (p : Part) : Reply :=
  if p.ctl.state ≠ .locked then (p, .state, [])
  else if !p.lines.estop then (p, .locked, [])
  else (p.takeClear.1, p.takeClear.2, if p.takeClear.2 = .done then p.takeClear.1.machineItems else [])

/-- REPAIR (R107, R196). A refusal carries the case record, once one is found, and TAKEN carries it too (DESIGN CHOICE, log entry 49). -/
def Part.repairRequest (p : Part) (k : Nat) : Reply :=
  match p.ctl.state.refusesReady with
  | some st => (p, st, p.caseItems k)
  | none =>
    if Config.caseCount ≤ k then (p, .range, [])
    else
      match p.caseAt k with
      | none => (p, .noRecord, [])
      | some q =>
        if q.state ≠ .closed ∨ some q.design ≠ p.ctl.design ∨ p.isActive q.head = false then (p, .state, q.items k)
        else if (p.changeRequest q.head).state.inFlight then (p, .busy, q.items k)
        else ((p.takeRepair k q), .taken, (p.takeRepair k q).caseItems k)

/-- A fall of the START line, in READY with armed set (R90). -/
def Part.startLine (p : Part) : Part :=
  if p.ctl.state = .ready ∧ p.ctl.armed = true ∧ p.atEnd = false then p.takeStart else p

/-! ## The meanings -/

/-- LOOKUP MACHINE (R109, R213): the record and the notice set, which is then emptied. -/
def execLookupMachine (s : State) : Result State :=
  s.request 0x30 fun p =>
    let q := p.observe
    ({ q with port := { q.port with notices := Notices.none } }, .done,
      q.machineItems ++ num 1 q.port.notices.byte)
/-- AMEND MACHINE (R51, R109). -/
def execAmendMachine (speed : Given Nat) (s : State) : Result State := s.request 0x31 fun p => p.amendMachine speed
/-- ACTIVATE (R86, R33). -/
def execActivate (d : Nat) (originX originY : Int) (orientation mirror scaleX scaleY discard : Nat) (s : State) :
    Result State :=
  s.request 0x32 fun p => p.activate d (placement? originX originY orientation mirror scaleX scaleY) discard
/-- DEACTIVATE (R88). -/
def execDeactivate (discard : Nat) (s : State) : Result State := s.request 0x33 fun p => p.deactivate discard
/-- START (R89). -/
def execStart (s : State) : Result State := s.request 0x34 fun p => p.startRequest
/-- ARM (R90). -/
def execArm (on : Nat) (s : State) : Result State := s.request 0x35 fun p => p.arm on
/-- STOP (R95). -/
def execStop (n : Nat) (s : State) : Result State := s.request 0x36 fun p => p.stopRequest n
/-- BACK (R101). -/
def execBack (n : Nat) (s : State) : Result State := s.request 0x37 fun p => p.travel false n
/-- FWD (R101). -/
def execFwd (n : Nat) (s : State) : Result State := s.request 0x38 fun p => p.travel true n
/-- REWIND (R103). -/
def execRewind (discard : Nat) (s : State) : Result State := s.request 0x39 fun p => p.rewind discard
/-- CLEAR (R106). -/
def execClear (s : State) : Result State := s.request 0x3A fun p => p.clearRequest
/-- REPAIR (R107, R196). -/
def execRepair (k : Nat) (s : State) : Result State := s.request 0x3B fun p => p.repairRequest k
/-- RESTART (R108, R215). -/
def execRestart (s : State) : Result State :=
  s.request 0x3C fun p => (p.restartAll, .done, p.restartAll.machineItems)

/-- LOOKUP PLAN (R63). -/
def execLookupPlan (s : State) : Result State := s.request 0x40 fun p => (p, .done, p.plan.items)
/-- LOOKUP SHAFT (R73). -/
def execLookupShaft (s : State) : Result State := s.request 0x41 fun p => (p, .done, p.shaftItems)
/-- LOOKUP CHAIN (R83). -/
def execLookupChain (s : State) : Result State := s.request 0x42 fun p => (p, .done, p.chainItems)

/-- ESTOP_FALL (R105). -/
def execEstopFall (s : State) : Result State :=
  s.lineEvent (fun l => { l with estop := false }) fun p => p.lock .estop
/-- START_LINE_FALL (R90). -/
def execStartLineFall (s : State) : Result State :=
  s.lineEvent (fun l => { l with start := false }) fun p => p.startLine
/-- STOP_LINE_FALL (R96). -/
def execStopLineFall (s : State) : Result State :=
  s.lineEvent (fun l => { l with stop := false }) fun p => (p.orderStop p.par.stopLineCount .line .line).1

end Sys2Proof.Machine
end

