-- ==== Sys2Proof/Machine/MapRequests.lean ====
section
/-! DEFINITION. The requests of the needle map unit (chapter 6, codes 0x50 to 0x55) and the MAPSTROBE line. -/

namespace Sys2Proof.Machine

/-- The pairs of AMEND MAP, when every slot and needle lies in its range (R113). -/
def mapPairs? : List MapPair → Option (List (Nat × Option Nat))
  | [] => some []
  | m :: rest =>
    match optField? m.needle, mapPairs? rest with
    | some v, some l =>
      let needleOk := match v with
        | some n => isNeedle n
        | none => true
      if isSlot m.slot && needleOk then some ((m.slot, v) :: l) else none
    | _, _ => none

/-- No slot is named twice. -/
def distinctSlots (l : List (Nat × Option Nat)) : Bool := decide (l.map Prod.fst).Nodup

/-- A unit of the present mode, or ALL, coded 0 (R113). -/
def Part.isUnitOrAll (p : Part) (unit : Nat) : Bool := decide (unit ≤ p.maps.mode.units)

/-- The map of a name: the active map or a staged one. -/
def Part.mapNamed (p : Part) : Option Staged → NeedleMap
  | none => p.maps.active
  | some x => p.maps.staged x

/-- The entries AMEND MAP and LOOKUP MAP answer with: the named unit's, those of unit 1 with ALL (R113, R127). -/
def Part.namedUnit (p : Part) (map : Option Staged) (unit : Nat) : List Item :=
  unitItems (p.mapNamed map) (if unit = 0 then 1 else unit)

/-- A taken AMEND MAP: a staged map is loaded, the active map is EDITED and a held strobe is discarded (R112 to R114). -/
def Part.writeMap (p0 : Part) (map : Option Staged) (unit : Nat) (pairs : List (Nat × Option Nat)) : Part :=
  match map with
  | some x => { p0 with maps := p0.maps.load x ((p0.maps.staged x).amend unit pairs) }
  | none =>
    let p := p0.discardHeld
    { p with maps := { p.maps with active := p.maps.active.amend unit pairs, origin := .edited } }

/-- The pairs of AMEND MAP as it takes them: 1 to 24 pairs, each in its range, no slot named twice (R113). -/
def takenPairs? (pairs : List MapPair) : Option (List (Nat × Option Nat)) :=
  match mapPairs? pairs with
  | some l => if l.isEmpty || decide (24 < l.length) || !distinctSlots l then none else some l
  | none => none

/-- AMEND MAP (R113, R114). A refusal carries the entries of the unit it names, once it names one (R210). -/
def Part.amendMap (p : Part) (map unit : Nat) (pairs : List MapPair) : Reply :=
  match mapName? map with
  | none => (p, .range, [])
  | some m =>
    if !p.isUnitOrAll unit then (p, .range, [])
    else
      match takenPairs? pairs with
      | none => (p, .range, p.namedUnit m unit)
      | some l =>
        if m = none ∧ p.ctl.state = .changing then (p, .busy, p.namedUnit m unit)
        else (p.writeMap m unit l, .done, (p.writeMap m unit l).namedUnit m unit)

/-- AMEND MAP MODE (R115). -/
def Part.amendMapMode (p : Part) (mode : Nat) : Reply :=
  match mapMode? mode with
  | none => (p, .range, num 1 p.maps.mode.code)
  | some m =>
    if p.ctl.state ≠ .unready ∧ p.ctl.state ≠ .ready then (p, .state, num 1 p.maps.mode.code)
    else if m = p.maps.mode then (p, .done, num 1 m.code)
    else
      let q := p.discardHeld
      ({ q with maps := q.maps.layout m }, .done, num 1 m.code)

/-- STROBE (R117). A refusal of an unloaded map carries the map record of R127 (R210, log entry 49). -/
def Part.strobeRequest (p : Part) (map : Nat) : Reply :=
  match staged? map with
  | none => (p, .range, [])
  | some x =>
    if !p.maps.loaded x then
      (p.recordStrobe .request x .ignored, .state, (p.recordStrobe .request x .ignored).mapsItems)
    else
      (p.takeStrobe .request x, .done,
        num 1 (if p.ctl.state = .changing then StrobeOutcome.held.code else StrobeOutcome.applied.code))

/-- AUTOMAP (R123 to R126). A refusal carries the record of the design it names (R210, log entry 49). -/
def Part.automap (p : Part) (d map : Nat) : Reply :=
  if !isDesign d then (p, .range, [])
  else
    let y := p.lib.design d
    match staged? map with
    | none => (p, .range, y.items)
    | some x =>
      if y.state = .empty then (p, .noRecord, y.items)
      else
        let n := p.automapCounts y
        ({ p with maps := p.maps.load x (p.automapTable y) }, .done,
          num 1 x.code ++ num 1 p.maps.mode.code ++ num 2 n.1 ++ num 2 n.2.1 ++ itemOpt 1 n.2.2.head?)

/-- LOOKUP MAP (R127). -/
def Part.lookupMap (p : Part) (map unit : Nat) : Reply :=
  match mapName? map with
  | some m => if unit ≠ 0 ∧ p.isUnitOrAll unit = true then (p, .done, p.namedUnit m unit) else (p, .range, [])
  | none => (p, .range, [])

/-! ## The meanings -/

/-- AMEND MAP (R113, R114). -/
def execAmendMap (map unit : Nat) (pairs : List MapPair) (s : State) : Result State :=
  s.request 0x50 fun p => p.amendMap map unit pairs
/-- AMEND MAP MODE (R115). -/
def execAmendMapMode (mode : Nat) (s : State) : Result State := s.request 0x51 fun p => p.amendMapMode mode
/-- STROBE (R117). -/
def execStrobe (map : Nat) (s : State) : Result State := s.request 0x52 fun p => p.strobeRequest map
/-- AUTOMAP (R123). -/
def execAutomap (d map : Nat) (s : State) : Result State := s.request 0x53 fun p => p.automap d map
/-- LOOKUP MAP (R127). -/
def execLookupMap (map unit : Nat) (s : State) : Result State := s.request 0x54 fun p => p.lookupMap map unit
/-- LOOKUP MAPS (R127). -/
def execLookupMaps (s : State) : Result State := s.request 0x55 fun p => (p, .done, p.mapsItems)

/-- MAPSTROBE_FALL (R118): MAPSEL is read at the fall. -/
def execMapstrobeFall (mapsel : Bool) (s : State) : Result State :=
  s.lineEvent (fun l => { l with mapstrobe := false, mapsel := mapsel }) fun p =>
    p.takeStrobe .line (selectedMap mapsel)

end Sys2Proof.Machine
end

