-- ==== Sys2Proof/Machine/ParameterRequests.lean ====
section
/-! DEFINITION. AMEND PARAMETERS and LOOKUP PARAMETERS (R212), with the clamps of R61, R62, R134, R166, R183 and what an
amendment does to heads, counts and speeds. -/

namespace Sys2Proof.Machine

/-- The parameter record with the given values in place, before any clamp; none when a field is outside its encoding or an
enumerated parameter outside its list (R212). -/
def givenParams? (q : Params) (f : ParamFields) : Option Params :=
  match given? f.vMin, given? f.vMax, given? f.vJump, given? f.vStop, given? f.slew, given? f.stopSlew, given? f.fX,
    given? f.fY, given? f.kX, given? f.kY, given? f.fTrav, given? f.wStart, given? f.wEnd with
  | some a1, some a2, some a3, some a4, some a5, some a6, some a7, some a8, some a9, some a10, some a11, some a12, some a13 =>
    match given? f.headsFitted, given? f.lostCount, given? f.selStep, given? f.selSettle, given? f.selGrace,
      given? f.tensionCount, given? f.breakRatio, given? f.breakCount, given? f.motionBase, given? f.motionRate,
      givenVia? flag? f.continueAfterChange, givenVia? flag? f.startRepeat, given? f.stopLineCount,
      givenVia? autoStrobe? f.autoStrobe, givenVia? faultLine? f.faultLine with
    | some b1, some b2, some b3, some b4, some b5, some b6, some b7, some b8, some b9, some b10, some b11, some b12, some b13,
      some b14, some b15 =>
      some
        { vMin := a1.getD q.vMin, vMax := a2.getD q.vMax, vJump := a3.getD q.vJump, vStop := a4.getD q.vStop
          slew := a5.getD q.slew, stopSlew := a6.getD q.stopSlew, fX := a7.getD q.fX, fY := a8.getD q.fY
          kX := a9.getD q.kX, kY := a10.getD q.kY, fTrav := a11.getD q.fTrav, wStart := a12.getD q.wStart
          wEnd := a13.getD q.wEnd, headsFitted := b1.getD q.headsFitted, lostCount := b2.getD q.lostCount
          selStep := b3.getD q.selStep, selSettle := b4.getD q.selSettle, selGrace := b5.getD q.selGrace
          tensionCount := b6.getD q.tensionCount, breakRatio := b7.getD q.breakRatio
          breakCount := b8.getD q.breakCount, motionBase := b9.getD q.motionBase
          motionRate := b10.getD q.motionRate, continueAfterChange := b11.getD q.continueAfterChange
          startRepeat := b12.getD q.startRepeat, stopLineCount := b13.getD q.stopLineCount
          autoStrobe := b14.getD q.autoStrobe, follow := b15.getD q.follow }
    | _, _, _, _, _, _, _, _, _, _, _, _, _, _, _ => none
  | _, _, _, _, _, _, _, _, _, _, _, _, _ => none

/-- Every numeric parameter clamped in the order of R61, each against values already clamped; the slew is raised to its floor
(R61, R62, R35, R134, R166, R183). -/
def Params.clamped (q : Params) : Params :=
  let vMin := clampNat 100 400 q.vMin
  let vMax := clampNat vMin 1500 q.vMax
  let slew := max (clampNat 10 400 q.slew) (ceilDiv (vMax - vMin) 15)
  let fX := clampNat 5000 60000 q.fX
  let fY := clampNat 5000 60000 q.fY
  { vMin := vMin, vMax := vMax, vJump := clampNat vMin vMax q.vJump, vStop := clampNat vMin vMax q.vStop
    slew := slew, stopSlew := clampNat slew 600 q.stopSlew, fX := fX, fY := fY
    kX := clampNat 256 8192 q.kX, kY := clampNat 256 8192 q.kY, fTrav := clampNat 1000 (min fX fY) q.fTrav
    wStart := clampNat 600 900 q.wStart, wEnd := clampNat 60 180 q.wEnd
    headsFitted := clampNat 1 20 q.headsFitted, lostCount := clampNat 1 15 q.lostCount
    selStep := clampNat 10 200 q.selStep, selSettle := clampNat 0 500 q.selSettle
    selGrace := clampNat 50 2000 q.selGrace, tensionCount := clampNat 1 15 q.tensionCount
    breakRatio := clampNat 1 15 q.breakRatio, breakCount := clampNat 1 15 q.breakCount
    motionBase := clampNat 0 63 q.motionBase, motionRate := clampNat 0 4095 q.motionRate
    continueAfterChange := q.continueAfterChange, startRepeat := q.startRepeat, stopLineCount := q.stopLineCount
    autoStrobe := q.autoStrobe, follow := q.follow }

/-- A head under a new heads_fitted: above it DISABLED, with its OPEN case closed; brought within it ACTIVE if enabled
(R170, R192). -/
def Part.refitHead (old new : Nat) (p : Part) (h : Nat) : Part :=
  let r := p.head h
  if new < h ∧ r.state ≠ .disabled then
    let p1 := ((p.setHead h { r with state := .disabled }).revise h).resetCounts h
    let p2 := p1.setLink h { p1.link h with missing := 0 }
    if r.state.isParked then p2.closeOpenOf h p2.cur else p2
  else if old < h ∧ h ≤ new then p.setHead h { r with state := if r.enable then .active else .disabled }
  else p

/-- A lower lost_count lowers the counts above it, without raising LOST (R81). -/
def HeadLink.capMissing (n : Nat) (l : HeadLink) : HeadLink := { l with missing := min l.missing n }

/-- Store an amended parameter record, with its effects on heads, counts and speeds (R62, R81, R170, R212). -/
def Part.storeParams (p : Part) (q : Params) : Part :=
  let p1 : Part :=
    { p with
      par := q
      plan := { p.plan with
        requested := clampNat q.vMin q.vMax p.plan.requested, vSet := clampNat q.vMin q.vMax p.plan.vSet }
      chain := { p.chain with links := p.chain.links.map (HeadLink.capMissing q.lostCount) } }
  p1.forHeads allHeads (Part.refitHead p.par.headsFitted q.headsFitted)

/-- AMEND PARAMETERS (R212, R25, R61): the controller state, then RANGE, then the STATE of K_x and K_y (DESIGN CHOICE, log entry 14). -/
def Part.amendParameters (p : Part) (f : ParamFields) : Reply :=
  if p.ctl.state ≠ .unready ∧ p.ctl.state ≠ .ready then (p, .state, p.par.items)
  else
    match givenParams? p.par f with
    | none => (p, .range, p.par.items)
    | some q =>
      if (f.kX.sel = 1 ∨ f.kY.sel = 1) ∧ p.ctl.design.isSome then (p, .state, p.par.items)
      else (p.storeParams q.clamped, .done, q.clamped.items)

/-! ## The meanings -/

/-- AMEND PARAMETERS (R212). -/
def execAmendParameters (fields : ParamFields) (s : State) : Result State :=
  s.request 0xA0 fun p => p.amendParameters fields
/-- LOOKUP PARAMETERS (R212). -/
def execLookupParameters (s : State) : Result State := s.request 0xA1 fun p => (p, .done, p.par.items)

end Sys2Proof.Machine
end

