-- ==== Sys2Proof/Machine/SelectorRequests.lean ====
section
/-! DEFINITION. The requests of the selector arbiter (chapter 7, codes 0x60 to 0x62) and the expiry of a deadline. -/

namespace Sys2Proof.Machine

/-- SELECT, once the controller is READY and its checks have passed (R146). -/
def Part.takeSelect (p : Part) (h n : Nat) : Part × Status :=
  if (p.selector h).state = .atNeedle n then (p.latchNeedle h (some n), .done)
  else ((p.addRequest h n .manual none).grants, .taken)

/-- The selector and request records a refusal names: those of a head 1 to 20, nothing otherwise (R210). -/
def Part.namedSelector (p : Part) (h : Nat) : List Item := if isHead h then p.selectorItems h else []

/-- SELECT (R146): the checks in order. -/
def Part.selectRequest (p : Part) (h n : Nat) : Reply :=
  match p.ctl.state with
  | .locked => (p, .locked, p.namedSelector h)
  | .ready =>
    if !(isHead h && decide (h ≤ p.par.headsFitted) && isNeedle n) then (p, .range, p.namedSelector h)
    else if (p.head h).state = .disabled ∨ (p.selector h).state = .jammed then (p, .state, p.selectorItems h)
    else if (p.changeRequest h).state.inFlight then (p, .busy, p.selectorItems h)
    else
      let r := p.takeSelect h n
      (r.1, r.2, r.1.selectorItems h)
  | _ => (p, .state, p.namedSelector h)

/-- CANCEL CHANGE (R137). -/
def Part.cancelChange (p : Part) (h : Nat) : Reply :=
  if !isHead h then (p, .range, [])
  else
    match p.ctl.state with
    | .locked => (p, .locked, p.selectorItems h)
    | .repairing => (p, .busy, p.selectorItems h)
    | _ =>
      let r := p.cancelRequest h
      (r.1, r.2, r.1.selectorItems h)

/-- The deadline of a head passes with its request still MOVING; otherwise it finds nothing to do (R135). -/
def Part.deadlinePassed (p : Part) (h : Nat) : Part :=
  if (p.changeRequest h).state = .moving then
    (p.atLeast ((p.changeRequest h).deadline.getD p.now)).deadline h
  else p

/-! ## The meanings -/

/-- SELECT (R146). -/
def execSelect (h n : Nat) (s : State) : Result State := s.request 0x60 fun p => p.selectRequest h n
/-- CANCEL CHANGE (R137). -/
def execCancelChange (h : Nat) (s : State) : Result State := s.request 0x61 fun p => p.cancelChange h
/-- LOOKUP SELECTORS (R150). -/
def execLookupSelectors (s : State) : Result State := s.request 0x62 fun p => (p, .done, p.selectorsItems)

/-- SELECTOR_DEADLINE_EXPIRY (R135). -/
def execSelectorDeadlineExpiry (h : Nat) (s : State) : Result State := s.event fun p => p.deadlinePassed h

end Sys2Proof.Machine
end

