-- ==== Sys2Proof/Machine/ThreadRequests.lean ====
section
/-! DEFINITION. The requests of the thread monitor (chapter 8, codes 0x70 to 0x78) and its declarations as events. -/

namespace Sys2Proof.Machine

/-- The record of the latched sewing needle of an ACTIVE head cannot be changed while the controller is STARTING, RUNNING,
STOPPING or REPAIRING (R153). -/
def Part.threadHeld (p : Part) (h n : Nat) : Bool :=
  (p.sews || decide (p.ctl.state = .repairing)) && p.isActive h && decide ((p.selector h).latched = some n)

/-- The band of AMEND THREAD within its range (R152). -/
def bandOk (b : Nat × Nat) : Bool := decide (b.1 ≤ b.2) && decide (b.2 ≤ 1023)

/-- The state after AMEND THREAD (R152). -/
def amendedState (colour : Option Nat) (given : Option ThreadState) (before : ThreadState) : ThreadState :=
  match colour, given with
  | none, _ => .empty
  | some _, some st => st
  | some _, none => if before = .empty then .ready else before

/-- The record AMEND THREAD leaves, or none when the request is refused with RANGE (R152). -/
def amendedThread? (t : Thread) (colour : Given Nat) (band : Given (Nat × Nat)) (state : Given Nat) : Option Thread :=
  match givenOpt? colour, given? band, givenVia? threadState? state with
  | some c, some b, some st =>
    let colourAfter := c.getD t.colour
    let b' := b.getD (t.low, t.high)
    if bandOk b' = false ∨ (colourAfter = none ∧ st.isSome = true) then none
    else some { colour := colourAfter, low := b'.1, high := b'.2, state := amendedState colourAfter st t.state }
  | _, _, _ => none

/-- A head 1 to 20 and a needle 1 to 15. -/
def isThread (h n : Nat) : Bool := isHead h && isNeedle n

/-- AMEND THREAD (R152, R153). -/
def Part.amendThread (p : Part) (h n : Nat) (colour : Given Nat) (band : Given (Nat × Nat)) (state : Given Nat) : Reply :=
  if !isThread h n then (p, .range, [])
  else
    match amendedThread? (p.thread h n) colour band state with
    | none => (p, .range, (p.thread h n).items)
    | some t =>
      if p.threadHeld h n then (p, .busy, (p.thread h n).items)
      else (p.putThread h n t, .done, t.items)

/-- RETIRE THREAD (R154). -/
def Part.retireThread (p : Part) (h n : Nat) : Reply :=
  if !isThread h n then (p, .range, [])
  else if (p.thread h n).state = .empty then (p, .noRecord, (p.thread h n).items)
  else if p.threadHeld h n then (p, .busy, (p.thread h n).items)
  else (p.putThread h n Thread.reset, .done, Thread.reset.items)

/-- Insert a sample entry after every entry whose angle is at or below its own (R156). -/
def insertSample (e : SampleEntry) : List SampleEntry → List SampleEntry
  | [] => [e]
  | f :: rest => if f.angle ≤ e.angle then f :: insertSample e rest else e :: f :: rest

/-- Store the schedule. -/
def Part.setSchedule (p : Part) (l : List SampleEntry) : Part := { p with mon := { p.mon with schedule := l } }

/-- ADD_SAMPLE (R156): the position of the new entry, then the schedule. -/
def Part.addSample (p : Part) (angle heads cadence use : Nat) : Reply :=
  match sampleHeads? heads, sampleUse? use with
  | some h, some u =>
    if 1023 < angle ∨ cadence = 0 ∨ 8 < cadence then (p, .range, p.scheduleItems)
    else if Config.scheduleMax ≤ p.mon.schedule.length then (p, .full, p.scheduleItems)
    else
      let p' := p.setSchedule (insertSample ⟨angle, h, cadence, u⟩ p.mon.schedule)
      (p', .done, num 1 (p.mon.schedule.countP (fun e => decide (e.angle ≤ angle)) + 1) ++ p'.scheduleItems)
  | _, _ => (p, .range, p.scheduleItems)

/-- RETIRE SAMPLE (R156). -/
def Part.retireSample (p : Part) (i : Nat) : Reply :=
  if i = 0 ∨ p.mon.schedule.length < i then (p, .noRecord, p.scheduleItems)
  else
    let p' := p.setSchedule (p.mon.schedule.eraseIdx (i - 1))
    (p', .done, p'.scheduleItems)

/-! ## Declarations as events of their own (R164): with the operands the report carries, log entry 8 -/

/-- TENSION declared for a head with an ordinal and a needle; the debounce count is 0 (R160). -/
def Part.tensionDeclared (p : Part) (h o : Nat) : Part :=
  if isHead h then (p.setSensing h { p.sensing h with debounce := 0 }).declare h .tension (some o) false else p

/-- BREAK declared for a head with its break ordinal and span needle; only a span whose needle's record is READY is judged
(R158, R162), so with another record there is nothing to declare. -/
def Part.breakDeclared (p : Part) (h o n : Nat) : Part :=
  if isThread h n && decide ((p.thread h n).state = .ready) then p.declareBreak h n o else p

/-- BOBBIN declared for a head: its count has reached 0 (R163). -/
def Part.bobbinDeclared (p : Part) (h o : Nat) : Part :=
  if isHead h then
    (p.setHead h { p.head h with bobbin := (p.head h).bobbin.map fun _ => 0 }).declare h .bobbin (some o) false
  else p

/-! ## The meanings -/

/-- AMEND THREAD (R152, R153). -/
def execAmendThread (h n : Nat) (colour : Given Nat) (band : Given (Nat × Nat)) (state : Given Nat) (s : State) :
    Result State :=
  s.request 0x70 fun p => p.amendThread h n colour band state
/-- RETIRE THREAD (R154). -/
def execRetireThread (h n : Nat) (s : State) : Result State := s.request 0x71 fun p => p.retireThread h n
/-- LOOKUP THREAD (R154). -/
def execLookupThread (h n : Nat) (s : State) : Result State :=
  s.request 0x72 fun p => if isThread h n then (p, .done, (p.thread h n).items) else (p, .range, [])
/-- LOOKUP THREADS (R154): fifteen records without a count byte (DESIGN CHOICE, log entry 15). -/
def execLookupThreads (h : Nat) (s : State) : Result State :=
  s.request 0x73 fun p => if isHead h then (p, .done, (p.threadsOf h).flatMap Thread.items) else (p, .range, [])
/-- ADD_SAMPLE (R156). -/
def execAddSample (angle heads cadence use : Nat) (s : State) : Result State :=
  s.request 0x74 fun p => p.addSample angle heads cadence use
/-- RETIRE SAMPLE (R156). -/
def execRetireSample (i : Nat) (s : State) : Result State := s.request 0x75 fun p => p.retireSample i
/-- CLEAR_SCHEDULE (R156). -/
def execClearSchedule (s : State) : Result State :=
  s.request 0x76 fun p => (p.setSchedule [], .done, (p.setSchedule []).scheduleItems)
/-- LOOKUP SCHEDULE (R156). -/
def execLookupSchedule (s : State) : Result State := s.request 0x77 fun p => (p, .done, p.scheduleItems)
/-- LOOKUP SENSING (R167). -/
def execLookupSensing (h : Nat) (s : State) : Result State :=
  s.request 0x78 fun p => if isHead h then (p, .done, p.sensingItems h) else (p, .range, [])

/-- TENSION_DECLARED (R160, R164). The span needle is carried; the fault unit keeps nothing of it. -/
def execTensionDeclared (h ordinal _needle : Nat) (s : State) : Result State :=
  s.event fun p => p.tensionDeclared h ordinal
/-- BREAK_DECLARED (R162, R164). -/
def execBreakDeclared (h ordinal needle : Nat) (s : State) : Result State :=
  s.event fun p => p.breakDeclared h ordinal needle
/-- BOBBIN_DECLARED (R163, R164). -/
def execBobbinDeclared (h ordinal : Nat) (s : State) : Result State := s.event fun p => p.bobbinDeclared h ordinal

end Sys2Proof.Machine
end

