-- ==== Sys2Proof/Machine/Dispatch.lean ====
section
/-! DEFINITION. One arm per command: the meaning of each row of spec/opcode_table.json, in the table's order. -/

namespace Sys2Proof.Machine

/-- The effect of a command on everything but the queue. -/
def exec (i : Instr) (s : State) : Host.Outcome State Fault Refusal :=
  match i with
  | .openDesign d => Sys2Proof.Machine.execOpenDesign d s
  | .putStitches d format count records => Sys2Proof.Machine.execPutStitches d format count records s
  | .putRun d r fields => Sys2Proof.Machine.execPutRun d r fields s
  | .retireRun d r => Sys2Proof.Machine.execRetireRun d r s
  | .amendDesign d startRun colours => Sys2Proof.Machine.execAmendDesign d startRun colours s
  | .seal d => Sys2Proof.Machine.execSeal d s
  | .retireDesign d discard => Sys2Proof.Machine.execRetireDesign d discard s
  | .lookupDesign d => Sys2Proof.Machine.execLookupDesign d s
  | .lookupRun d r => Sys2Proof.Machine.execLookupRun d r s
  | .lookupStitches d k n => Sys2Proof.Machine.execLookupStitches d k n s
  | .lookupOrdinal d o => Sys2Proof.Machine.execLookupOrdinal d o s
  | .lookupLibrary => Sys2Proof.Machine.execLookupLibrary s
  | .amendHoop xMin xMax yMin yMax => Sys2Proof.Machine.execAmendHoop xMin xMax yMin yMax s
  | .lookupHoop => Sys2Proof.Machine.execLookupHoop s
  | .home => Sys2Proof.Machine.execHome s
  | .jog mode x y => Sys2Proof.Machine.execJog mode x y s
  | .lookupFrame => Sys2Proof.Machine.execLookupFrame s
  | .lookupMachine => Sys2Proof.Machine.execLookupMachine s
  | .amendMachine speed => Sys2Proof.Machine.execAmendMachine speed s
  | .activate d originX originY orientation mirror scaleX scaleY discard => Sys2Proof.Machine.execActivate d originX originY orientation mirror scaleX scaleY discard s
  | .deactivate discard => Sys2Proof.Machine.execDeactivate discard s
  | .start => Sys2Proof.Machine.execStart s
  | .arm on => Sys2Proof.Machine.execArm on s
  | .stop n => Sys2Proof.Machine.execStop n s
  | .back n => Sys2Proof.Machine.execBack n s
  | .fwd n => Sys2Proof.Machine.execFwd n s
  | .rewind discard => Sys2Proof.Machine.execRewind discard s
  | .clear => Sys2Proof.Machine.execClear s
  | .repair k => Sys2Proof.Machine.execRepair k s
  | .restart => Sys2Proof.Machine.execRestart s
  | .lookupPlan => Sys2Proof.Machine.execLookupPlan s
  | .lookupShaft => Sys2Proof.Machine.execLookupShaft s
  | .lookupChain => Sys2Proof.Machine.execLookupChain s
  | .amendMap map unit pairs => Sys2Proof.Machine.execAmendMap map unit pairs s
  | .amendMapMode mode => Sys2Proof.Machine.execAmendMapMode mode s
  | .strobe map => Sys2Proof.Machine.execStrobe map s
  | .automap d map => Sys2Proof.Machine.execAutomap d map s
  | .lookupMap map unit => Sys2Proof.Machine.execLookupMap map unit s
  | .lookupMaps => Sys2Proof.Machine.execLookupMaps s
  | .select h n => Sys2Proof.Machine.execSelect h n s
  | .cancelChange h => Sys2Proof.Machine.execCancelChange h s
  | .lookupSelectors => Sys2Proof.Machine.execLookupSelectors s
  | .amendThread h n colour band state => Sys2Proof.Machine.execAmendThread h n colour band state s
  | .retireThread h n => Sys2Proof.Machine.execRetireThread h n s
  | .lookupThread h n => Sys2Proof.Machine.execLookupThread h n s
  | .lookupThreads h => Sys2Proof.Machine.execLookupThreads h s
  | .addSample angle heads cadence use => Sys2Proof.Machine.execAddSample angle heads cadence use s
  | .retireSample k => Sys2Proof.Machine.execRetireSample k s
  | .clearSchedule => Sys2Proof.Machine.execClearSchedule s
  | .lookupSchedule => Sys2Proof.Machine.execLookupSchedule s
  | .lookupSensing h => Sys2Proof.Machine.execLookupSensing h s
  | .amendHead h fields => Sys2Proof.Machine.execAmendHead h fields s
  | .amendClearFaults h kinds => Sys2Proof.Machine.execAmendClearFaults h kinds s
  | .amendClearJam h => Sys2Proof.Machine.execAmendClearJam h s
  | .park h => Sys2Proof.Machine.execPark h s
  | .restoreHead h => Sys2Proof.Machine.execRestoreHead h s
  | .lookupHead h => Sys2Proof.Machine.execLookupHead h s
  | .lookupHeads => Sys2Proof.Machine.execLookupHeads s
  | .retireCase k => Sys2Proof.Machine.execRetireCase k s
  | .lookupCase k => Sys2Proof.Machine.execLookupCase k s
  | .lookupCases => Sys2Proof.Machine.execLookupCases s
  | .amendParameters fields => Sys2Proof.Machine.execAmendParameters fields s
  | .lookupParameters => Sys2Proof.Machine.execLookupParameters s
  | .fetch bytes => Sys2Proof.Machine.execFetch bytes s
  | .resetAssert => Sys2Proof.Machine.execResetAssert s
  | .resetRelease => Sys2Proof.Machine.execResetRelease s
  | .estopFall => Sys2Proof.Machine.execEstopFall s
  | .startLineFall => Sys2Proof.Machine.execStartLineFall s
  | .stopLineFall => Sys2Proof.Machine.execStopLineFall s
  | .mapstrobeFall mapsel => Sys2Proof.Machine.execMapstrobeFall mapsel s
  | .encoderCount a b z elapsed => Sys2Proof.Machine.execEncoderCount a b z elapsed s
  | .drvFltFall => Sys2Proof.Machine.execDrvFltFall s
  | .homeSensorEdge axis active => Sys2Proof.Machine.execHomeSensorEdge axis active s
  | .headReport frame => Sys2Proof.Machine.execHeadReport frame s
  | .replySlotEnd anyByte => Sys2Proof.Machine.execReplySlotEnd anyByte s
  | .idleExchange => Sys2Proof.Machine.execIdleExchange s
  | .shaftStanding => Sys2Proof.Machine.execShaftStanding s
  | .positioningComplete => Sys2Proof.Machine.execPositioningComplete s
  | .positioningTimeout => Sys2Proof.Machine.execPositioningTimeout s
  | .indexWatchTrip => Sys2Proof.Machine.execIndexWatchTrip s
  | .reverseWatchTrip => Sys2Proof.Machine.execReverseWatchTrip s
  | .lost h => Sys2Proof.Machine.execLost h s
  | .selectorDeadlineExpiry h => Sys2Proof.Machine.execSelectorDeadlineExpiry h s
  | .homeNotFound axis => Sys2Proof.Machine.execHomeNotFound axis s
  | .tensionDeclared h ordinal needle => Sys2Proof.Machine.execTensionDeclared h ordinal needle s
  | .breakDeclared h ordinal needle => Sys2Proof.Machine.execBreakDeclared h ordinal needle s
  | .bobbinDeclared h ordinal => Sys2Proof.Machine.execBobbinDeclared h ordinal s
  | .sealComplete => Sys2Proof.Machine.execSealComplete s
  | .subMoveComplete => Sys2Proof.Machine.execSubMoveComplete s
  | .traverseLegComplete => Sys2Proof.Machine.execTraverseLegComplete s
  | .malformedFrame code => Sys2Proof.Machine.execMalformedFrame code s

end Sys2Proof.Machine
end

