-- ==== Sys2Proof/Machine/Tick.lean ====
section
/-! DEFINITION. What the passing of a microsecond does while no command waits (log entries 1, 3, 6): the clock moves on, the
frames put on the head chain have gone out, and the input lines are looked at again. -/

namespace Sys2Proof.Machine

/-- The levels of the input lines at a tick. A fall of ESTOP, START, STOP, MAPSTROBE or DRV_FLT is a command, so those lines
can only rise here; MAPSEL and DRV_POS have any level; so have the home sensors while no home search watches their edges;
the encoder lines move by ENCODER_COUNT alone. -/
def Lines.resample (l : Lines) (k : Nat) (searching : Bool) : Lines :=
  { l with
    estop := l.estop || Config.line k 0
    start := l.start || Config.line k 1
    stop := l.stop || Config.line k 2
    mapstrobe := l.mapstrobe || Config.line k 3
    mapsel := Config.line k 4
    drvFlt := l.drvFlt || Config.line k 5
    drvPos := Config.line k 6
    xHome := if searching then l.xHome else Config.line k 7
    yHome := if searching then l.yHome else Config.line k 8 }

/-- A home search is in progress. -/
def Part.inSearch (p : Part) : Bool :=
  match p.pos.move with
  | some m => decide (m.kind = .homeSearch) && !m.interrupted
  | none => false

/-- One microsecond without a command. -/
def Part.tick (p : Part) : Part :=
  { p with
    lines := p.lines.resample p.free p.inSearch
    now := p.now + 1
    free := p.free + 1
    chain := { p.chain with out := [] } }

end Sys2Proof.Machine
end

