-- ==== Sys2Proof/Safety.lean ====
section
/-! DEFINITION. What statements about the part speak of: the state a command leaves, the predicates of a state at rest and
of a locked state, and the invariants of the design library, the parameters and the head table. -/

namespace Sys2Proof.Machine

/-! ## States a command leaves -/

/-- The state with another part, the queue unchanged. -/
def State.put (s : State) (p : Part) : State := { s with part := p }

/-- The state a request leaves: the part its owner left, with the response held (R206). -/
def State.answered (s : State) (p : Part) (code : Nat) (st : Status) (payload : List Item) : State :=
  s.put (p.hold code st payload)

/-- A request can be begun: READY is high (R205). -/
def State.listens (s : State) : Prop := s.part.port.ready = true

/-- The part runs: the RESET line is high (R214). -/
def State.awake (s : State) : Prop := s.part.port.inReset = false

/-! ## Safety predicates -/

/-- A frame move is in progress: a leg, a home search or a sewing move that is not interrupted (R39). -/
def Part.moving (p : Part) : Bool :=
  match p.pos.move with
  | some m => !m.interrupted
  | none => false

/-- No head board is recorded DOWN at the last commit frame: no needle goes down in the next revolution (R77). -/
def Part.needlesHeld (p : Part) : Prop := ∀ h, isHead h = true → (p.link h).recorded.down = false

/-- No selector moves and no drive slot is held (R133, R149). -/
def Part.selectorsStill (p : Part) : Prop :=
  (∀ h, isHead h = true → (p.selector h).state ≠ .moving) ∧ ∀ x ∈ p.arb.slots, x = none

/-- What a lock leaves of everything that can move: the drive DISABLED with demand 0, nothing planned, no frame move, no needle
to go down, no selector in motion (R39, R64, R70, R82, R104, R149). -/
def Part.atRest (p : Part) : Prop :=
  p.shaft.drive = .disabled ∧ p.shaft.demand = 0 ∧ p.plan.queue = [] ∧ p.plan.demand = 0 ∧ p.moving = false ∧
    p.pos.busy = false ∧ p.needlesHeld ∧ p.selectorsStill

/-! ## Invariants -/

/-- Every entry of the twenty-head tables is there. -/
def Part.complete (p : Part) : Prop :=
  p.heads.length = Config.headCount ∧ p.chain.links.length = Config.headCount ∧
    p.arb.selectors.length = Config.headCount ∧ p.arb.requests.length = Config.headCount ∧
    p.mon.sensing.length = Config.headCount ∧ p.mon.threads.length = Config.headCount ∧
    (∀ row ∈ p.mon.threads, row.length = Config.needleCount) ∧ p.cases.records.length = Config.caseCount ∧
    p.cases.marks.length = Config.headCount ∧ p.arb.slots.length = Config.driveSlots

/-- A design record is well kept: as many pages as its records need, its runs listed once each in rising order under indexes
0 to 511, 24 colour slots, nothing in an EMPTY design (R2, R5, R6, R8, R20). -/
def Design.wf (x : Design) : Prop :=
  x.pages.length = ceilDiv x.count Config.pageSize ∧ sortedTable x.runs = true ∧ (∀ e ∈ x.runs, e.1 < 512) ∧
    x.slots.length = Config.slotCount ∧ (x.state = .empty → x.pages = [] ∧ x.runs = [])

/-- The library keeps its pools: sixteen designs, every page in the free list or in exactly one page list, every run
descriptor free or claimed, the stitch store in its canonical form (R2, R4). -/
def Library.wf (l : Library) : Prop :=
  l.designs.length = Config.designCount ∧ (∀ x ∈ l.designs, x.wf) ∧
    (l.freePages ++ l.designs.flatMap Design.pages).Perm (List.range Config.pageCount) ∧
    l.freeRuns + (l.designs.map fun x => x.runs.length).sum = Config.descriptorCount ∧ stitchesWf l.stitches = true

/-- The design states agree with their holders: ACTIVE is the design of the run controller and no other, SEALING the design the
sealer holds and no other; the derived fields are there in SEALED and ACTIVE only (R1, R11, R13, R84). -/
def Part.designsAgree (p : Part) : Prop :=
  (∀ d, d < Config.designCount → ((p.lib.design d).state = .active ↔ p.ctl.design = some d)) ∧
    (∀ d, d < Config.designCount → ((p.lib.design d).state = .sealing ↔ p.lib.sealer = some d)) ∧
    (∀ d, p.ctl.design = some d → d < Config.designCount) ∧
    ∀ d, d < Config.designCount →
      ((p.lib.design d).derived.isSome = true ↔ (p.lib.design d).state = .sealed ∨ (p.lib.design d).state = .active)

/-- Every parameter lies in its range (R35, R61, R62, R134, R166, R183). -/
def Params.inRange (q : Params) : Prop :=
  (100 ≤ q.vMin ∧ q.vMin ≤ 400) ∧ (q.vMin ≤ q.vMax ∧ q.vMax ≤ 1500) ∧ (q.vMin ≤ q.vJump ∧ q.vJump ≤ q.vMax) ∧
    (q.vMin ≤ q.vStop ∧ q.vStop ≤ q.vMax) ∧ (10 ≤ q.slew ∧ q.slew ≤ 400 ∧ q.vMax ≤ q.vMin + 15 * q.slew) ∧
    (q.slew ≤ q.stopSlew ∧ q.stopSlew ≤ 600) ∧ (5000 ≤ q.fX ∧ q.fX ≤ 60000) ∧ (5000 ≤ q.fY ∧ q.fY ≤ 60000) ∧
    (256 ≤ q.kX ∧ q.kX ≤ 8192) ∧ (256 ≤ q.kY ∧ q.kY ≤ 8192) ∧
    (1000 ≤ q.fTrav ∧ q.fTrav ≤ q.fX ∧ q.fTrav ≤ q.fY) ∧ (600 ≤ q.wStart ∧ q.wStart ≤ 900) ∧
    (60 ≤ q.wEnd ∧ q.wEnd ≤ 180) ∧ (1 ≤ q.headsFitted ∧ q.headsFitted ≤ 20) ∧ (1 ≤ q.lostCount ∧ q.lostCount ≤ 15) ∧
    (10 ≤ q.selStep ∧ q.selStep ≤ 200) ∧ q.selSettle ≤ 500 ∧ (50 ≤ q.selGrace ∧ q.selGrace ≤ 2000) ∧
    (1 ≤ q.tensionCount ∧ q.tensionCount ≤ 15) ∧ (1 ≤ q.breakRatio ∧ q.breakRatio ≤ 15) ∧
    (1 ≤ q.breakCount ∧ q.breakCount ≤ 15) ∧ q.motionBase ≤ 63 ∧ q.motionRate ≤ 4095

/-- READY is low exactly while the RESET line is (R205, R214). -/
def Part.readyAgrees (p : Part) : Prop := p.port.ready = !p.port.inReset

end Sys2Proof.Machine
end

