-- ==== Sys2Proof/WellFormed.lean ====
section
/-! DEFINITION. Which commands can be sent at all: every operand of a request fits the bytes R209 and R216 give it, and the
operands of an event lie in the ranges the part can see. A well-formed request may still be refused by its rule (RANGE and
the rest): well-formedness is about the wire, not about the record. -/

namespace Sys2Proof

/-- Fits one byte. -/
def fits8 (n : Nat) : Bool := n < 256
/-- Fits two bytes. -/
def fits16 (n : Nat) : Bool := n < 65536
/-- Fits three bytes. -/
def fits24 (n : Nat) : Bool := n < 16777216
/-- Fits four bytes signed (R209: design units, steps, hoop bounds, origins). -/
def fitsS32 (i : Int) : Bool := -2147483648 ≤ i && i < 2147483648

/-- A selector byte and a value within its width; value bytes that are not 0 under another selector than 1 can be sent and are
answered RANGE (R209). -/
def Given.fits (ok : Nat → Bool) (g : Given Nat) : Bool := fits8 g.sel && ok g.val

/-- The same for a pair of values under one selector. -/
def Given.fits2 (ok : Nat → Bool) (g : Given (Nat × Nat)) : Bool :=
  fits8 g.sel && ok g.val.1 && ok g.val.2

/-- A presence byte and a value within its width; value bytes that are not 0 of an absent field can be sent and are answered RANGE
(R209). -/
def Opt.fits (ok : Nat → Bool) (o : Opt Nat) : Bool := fits8 o.pres && ok o.val

/-- An optional pair of signed values. -/
def Opt.fitsVec (o : Opt (Int × Int)) : Bool :=
  fits8 o.pres && fitsS32 o.val.1 && fitsS32 o.val.2

/-- A stitch record as the compact form can carry it (R216): a 2-bit kind, two 7-bit signed displacements. -/
def RawStitch.fitsCompact (r : RawStitch) : Bool :=
  r.kind < 4 && -64 ≤ r.dx && r.dx < 64 && -64 ≤ r.dy && r.dy < 64

/-- A stitch record as the wide form can carry it (R216): a 2-bit kind, two 11-bit signed displacements. -/
def RawStitch.fitsWide (r : RawStitch) : Bool :=
  r.kind < 4 && -1024 ≤ r.dx && r.dx < 1024 && -1024 ≤ r.dy && r.dy < 1024

/-- The records a PUT_STITCHES frame of a format carries (R216): as many as its count says in format 0 (compact) or 1
(wide); of another format, which is answered RANGE whatever the length, none are read. -/
def stitchesFit (format count : Nat) (rs : List RawStitch) : Bool :=
  if format = 0 then count == rs.length && rs.all RawStitch.fitsCompact
  else if format = 1 then count == rs.length && rs.all RawStitch.fitsWide
  else rs.isEmpty

/-- The wire widths of PUT_RUN: first 3 bytes, length 2, passes and slot 1, the end shift 4 and 4, next 2. -/
def RunFields.fits (f : RunFields) : Bool :=
  fits24 f.first && fits16 f.length && fits8 f.passes && fits8 f.slot && f.endShift.fitsVec && f.next.fits fits16 &&
    fits8 f.haltAfter && fits8 f.trimAfter

/-- The wire widths of AMEND HEAD. -/
def HeadFields.fits (f : HeadFields) : Bool :=
  f.enable.fits fits8 && f.mask.fits fits8 && f.onBreak.fits fits8 && f.onTension.fits fits8 && f.onBobbin.fits fits8 &&
    f.onLost.fits fits8 && f.onJam.fits fits8 && f.bobbin.fits fits24

/-- The wire widths of AMEND PARAMETERS: speeds, rates, angles, times and K are 2 bytes, heads, counts and switches 1. -/
def ParamFields.fits (f : ParamFields) : Bool :=
  f.vMin.fits fits16 && f.vMax.fits fits16 && f.vJump.fits fits16 && f.vStop.fits fits16 && f.slew.fits fits16 &&
    f.stopSlew.fits fits16 && f.fX.fits fits16 && f.fY.fits fits16 && f.kX.fits fits16 && f.kY.fits fits16 &&
    f.fTrav.fits fits16 && f.wStart.fits fits16 && f.wEnd.fits fits16 && f.headsFitted.fits fits8 &&
    f.lostCount.fits fits8 && f.selStep.fits fits16 && f.selSettle.fits fits16 && f.selGrace.fits fits16 &&
    f.tensionCount.fits fits8 && f.breakRatio.fits fits8 && f.breakCount.fits fits8 && f.motionBase.fits fits8 &&
    f.motionRate.fits fits16 && f.continueAfterChange.fits fits8 && f.startRepeat.fits fits8 &&
    f.stopLineCount.fits fits16 && f.autoStrobe.fits fits8 && f.faultLine.fits2 fits8

/-- A command that can reach the part. -/
def Instr.wellFormed : Instr → Bool
  | .openDesign d | .seal d | .lookupDesign d => fits8 d
  | .putStitches d format count records => fits8 d && fits8 format && fits8 count && stitchesFit format count records
  | .putRun d r f => fits8 d && fits16 r && f.fits
  | .retireRun d r | .lookupRun d r => fits8 d && fits16 r
  | .amendDesign d startRun colours =>
      fits8 d && startRun.fits fits16 && fits8 colours.length &&
        colours.all fun c => fits8 c.slot && c.colour.fits fits16
  | .retireDesign d discard => fits8 d && fits8 discard
  | .lookupStitches d i n => fits8 d && fits24 i && fits8 n
  | .lookupOrdinal d o => fits8 d && fits24 o
  | .amendHoop a b c d => fitsS32 a && fitsS32 b && fitsS32 c && fitsS32 d
  | .jog mode x y => fits8 mode && fitsS32 x && fitsS32 y
  | .amendMachine speed => speed.fits fits16
  | .activate d ox oy orientation mirror sx sy discard =>
      fits8 d && fitsS32 ox && fitsS32 oy && fits8 orientation && fits8 mirror && fits16 sx && fits16 sy && fits8 discard
  | .deactivate discard | .rewind discard => fits8 discard
  | .arm on => fits8 on
  | .stop n | .back n | .fwd n => fits16 n
  | .repair k | .retireCase k | .lookupCase k => fits8 k
  | .amendMap map unit pairs =>
      fits8 map && fits8 unit && fits8 pairs.length && pairs.all fun p => fits8 p.slot && p.needle.fits fits8
  | .amendMapMode mode => fits8 mode
  | .strobe map => fits8 map
  | .automap d map => fits8 d && fits8 map
  | .lookupMap map unit => fits8 map && fits8 unit
  | .select h n | .retireThread h n | .lookupThread h n => fits8 h && fits8 n
  | .cancelChange h | .lookupThreads h | .lookupSensing h | .amendClearJam h | .park h | .restoreHead h
  | .lookupHead h => fits8 h
  | .amendThread h n colour band state =>
      fits8 h && fits8 n && colour.fits fits16 && band.fits2 fits16 && state.fits fits8
  | .addSample angle heads cadence use => fits16 angle && fits8 heads && fits8 cadence && fits8 use
  | .retireSample i => fits8 i
  | .amendHead h f => fits8 h && f.fits
  | .amendClearFaults h kinds => fits8 h && fits8 kinds
  | .amendParameters f => f.fits
  | .lookupLibrary | .lookupHoop | .home | .lookupFrame | .lookupMachine | .start | .clear | .restart | .lookupPlan
  | .lookupShaft | .lookupChain | .lookupMaps | .lookupSelectors | .clearSchedule | .lookupSchedule | .lookupHeads
  | .lookupCases | .lookupParameters => true
  | .fetch _ | .resetAssert | .resetRelease | .estopFall | .startLineFall | .stopLineFall | .mapstrobeFall _
  | .encoderCount _ _ _ _ | .drvFltFall | .homeSensorEdge _ _ | .headReport _ | .replySlotEnd _ | .idleExchange
  | .shaftStanding | .positioningComplete | .positioningTimeout | .indexWatchTrip | .reverseWatchTrip
  | .homeNotFound _ | .sealComplete | .subMoveComplete | .traverseLegComplete => true
  | .lost h | .selectorDeadlineExpiry h => 1 ≤ h && h ≤ 20
  | .tensionDeclared h o n | .breakDeclared h o n => 1 ≤ h && h ≤ 20 && fits24 o && 1 ≤ n && n ≤ 15
  | .bobbinDeclared h o => 1 ≤ h && h ≤ 20 && fits24 o
  | .malformedFrame code => 1 ≤ code && code < 256

end Sys2Proof
end

