-- ==== Sys2Proof/Certificates/Slice0/Obligations.lean ====
section
/-! DEFINITION. The statements for the provers, one `def` each, in the order of OBLIGATIONS.json. A statement about a request
supposes READY high (`listens`), one about an event RESET high (`awake`): the other case is stated once, for all of them. -/

open Sys2Proof Sys2Proof.Machine

/-! ## The queue, the link and the RESET line -/

/-- A step takes the command at the front of the queue and runs it on the state with the queue's rest. -/
def Obligations.StepRunsFrontCommand : Prop :=
  ∀ (c : Instr) (rest : List Instr) (s : State), s.pending = c :: rest → step s = exec c { s with pending := rest }

/-- With no command waiting a step is one microsecond's tick (the model's choice, log entries 1, 3 and 6): the clock moves on, the
frames put on the head chain have gone out, the operator, emergency and fault lines can only rise and the encoder lines stay; the
queue, the registers and all else are kept. -/
def Obligations.EmptyQueueStepIsTick : Prop :=
  ∀ s : State, s.pending = [] →
    ∃ t : State, step s = .next t ∧ t.pending = [] ∧ t.part.now = s.part.now + 1 ∧ t.part.chain.out = [] ∧
      { t.part with
        now := s.part.now, free := s.part.free, lines := s.part.lines
        chain := { t.part.chain with out := s.part.chain.out } } = s.part ∧
      (s.part.lines.estop = true → t.part.lines.estop = true) ∧ (s.part.lines.start = true → t.part.lines.start = true) ∧
      (s.part.lines.stop = true → t.part.lines.stop = true) ∧
      (s.part.lines.mapstrobe = true → t.part.lines.mapstrobe = true) ∧
      (s.part.lines.drvFlt = true → t.part.lines.drvFlt = true) ∧ t.part.lines.encA = s.part.lines.encA ∧
      t.part.lines.encB = s.part.lines.encB ∧ t.part.lines.encI = s.part.lines.encI

/-- No command stops the machine, and none writes the queue: the spec gives each an effect or a refusal status. -/
def Obligations.EveryCommandAnswersNext : Prop :=
  ∀ (c : Instr) (s : State), ∃ t : State, exec c s = .next t ∧ t.pending = s.pending

/-- A request frame begun with READY low is discarded unseen (R205): no check, no response, no effect. While the RESET line is low
nothing but the line itself acts on the part (R214): whatever command comes, the part stays as it is. That the levels of input
lines, which are the outside's, and the clock move on meanwhile is the model's reading (log entry 30). -/
def Obligations.ResetHoldsThePart : Prop :=
  (∀ (i : Instr) (code : Nat) (payload : List Byte) (s : State),
    encodeRequest i = some (code, payload) → s.part.port.ready = false → exec i s = .next s) ∧
  (∀ (code : Nat) (s : State), s.part.port.ready = false → exec (.malformedFrame code) s = .next s) ∧
  ∀ (c : Instr) (s : State), s.part.port.inReset = true → s.part.port.ready = false → c ≠ .resetAssert →
    c ≠ .resetRelease →
    ∃ t : State, exec c s = .next t ∧ t.pending = s.pending ∧
      { t.part with lines := s.part.lines, now := s.part.now } = s.part

/-- READY is low exactly while RESET is low, and every step keeps it so. R206, R214 and R215 hold READY low also while a request is
worked on and, after the rise, until every block holds its reset value: in the model a request and the rise are one step each,
so that nothing is left of those times (log entry 2). -/
def Obligations.ReadyAgreesWithResetLine : Prop :=
  State.reset.part.readyAgrees ∧
    ∀ s t : State, s.part.readyAgrees → step s = .next t → t.part.readyAgrees

/-- The two edges of the RESET line (R214). The fall leaves READY low, the drive DISABLED and the outputs at rest; that every register
else stays as it was until the rise is the model's reading (log entry 30). The rise leaves every block at its reset value with
the lines as they stand, and the controller UNREADY, or LOCKED with cause ESTOP when the ESTOP line is low (R105), which raises
no notice and sends no frame (log entry 11); a rise without a reset does nothing (log entry 47). -/
def Obligations.ResetLineEdges : Prop :=
  (∀ s : State, ∃ t : State, exec .resetAssert s = .next t ∧ t.pending = s.pending ∧ t.part.port.inReset = true ∧
    t.part.port.ready = false ∧ t.part.shaft.drive = .disabled ∧ t.part.drvEn = false ∧ t.part.drvDem = 0 ∧
    t.part.attnLow = false ∧ t.part.faultLow = false ∧ t.part.pos.dirX = false ∧ t.part.pos.dirY = false ∧
    t.part.port.held = s.part.port.held ∧ t.part.port.notices = s.part.port.notices ∧
    t.part.shaft.angle = s.part.shaft.angle ∧ t.part.shaft.synced = s.part.shaft.synced ∧
    t.part.shaft.speed = s.part.shaft.speed ∧ t.part.shaft.standing = s.part.shaft.standing ∧ t.part.chain.out = [] ∧
    { t.part with
      port := s.part.port, shaft := s.part.shaft
      pos := { t.part.pos with dirX := s.part.pos.dirX, dirY := s.part.pos.dirY }
      chain := { t.part.chain with out := s.part.chain.out } } = s.part) ∧
  (∀ s : State, s.part.port.inReset = true → s.part.lines.estop = true →
    exec .resetRelease s =
      .next { s with part := { State.reset.part with lines := s.part.lines, free := s.part.free } }) ∧
  (∀ s : State, s.part.port.inReset = true → s.part.lines.estop = false →
    ∃ t : State, exec .resetRelease s = .next t ∧ t.pending = s.pending ∧ t.part.ctl.state = .locked ∧
      t.part.ctl.lockCause = some .estop ∧ t.part.lib = State.reset.part.lib ∧ t.part.pos = State.reset.part.pos ∧
      t.part.plan = State.reset.part.plan ∧ t.part.shaft = State.reset.part.shaft ∧
      t.part.chain = State.reset.part.chain ∧ t.part.maps = State.reset.part.maps ∧
      t.part.arb = State.reset.part.arb ∧ t.part.mon = State.reset.part.mon ∧ t.part.heads = State.reset.part.heads ∧
      t.part.cases = State.reset.part.cases ∧ t.part.par = State.reset.part.par ∧
      t.part.port = State.reset.part.port ∧ t.part.lines = s.part.lines) ∧
  ∀ s : State, s.part.port.inReset = false → exec .resetRelease s = .next s

/-- A fetch of at least one byte carries 0 in the first byte and then the held response frame, zeros after it, or the empty frame
when none is held; it does not consume the response and changes nothing else. A frame that fails the port's check is
answered MALFORMED with an empty payload and byte 0 as received, with no other effect (R206, R207). -/
def Obligations.FetchAndMalformedFrame : Prop :=
  (∀ (s : State) (n : Nat), s.awake → s.listens → 1 ≤ n →
    ∃ bytes : List Byte,
      exec (.fetch n) s = .next (s.put { s.part with port := { s.part.port with sdo := bytes } }) ∧ bytes.length = n ∧
      bytes[0]? = some 0#8 ∧
      (∀ r, s.part.port.held = some r → ∀ k, k + 1 < n → bytes[k + 1]? = some ((r.frame[k]?).getD 0#8)) ∧
      (s.part.port.held = none → ∀ k, k + 1 < n → bytes[k + 1]? = some 0#8)) ∧
  ∀ (s : State) (code : Nat), s.listens →
    exec (.malformedFrame code) s = .next (s.answered s.part code .malformed [])

/-- Decode and encode agree on payloads: the payload written for any well-formed request is read back as that request, every
field at every value its bytes admit (R209, R211, R216). -/
def Obligations.PayloadRoundTrip : Prop :=
  ∀ (i : Instr) (code : Nat) (payload : List Byte),
    i.wellFormed = true → encodeRequest i = some (code, payload) → decodePayload code payload = some i

/-- The whole transaction too: the frame of any well-formed request whose payload fits its length byte's range is taken by the
port as that request (R205, R206). -/
def Obligations.FrameRoundTrip : Prop :=
  ∀ (i : Instr) (code : Nat) (payload : List Byte),
    i.wellFormed = true → encodeRequest i = some (code, payload) → payload.length ≤ 200 →
      decodeTransaction (frameOf code payload) = some i

/-- The CRC of a whole frame, its own CRC byte included, is 0, on the link and on the head chain; a frame with one byte wrong never
has that CRC, and the port takes no request frame without it; the check value of R208 is 0xF4 and code 0x30 with length 0 is
sent as 0x30, 0x00, 0xF9 (R206, R208). -/
def Obligations.FrameCheck : Prop :=
  (∀ body : List Byte, crc8 (body ++ [crc8 body]) = 0#8) ∧ (∀ f : ChainFrame, crc8 f.bytes = 0#8) ∧
  (∀ (r : Response), crc8 r.frame = 0#8) ∧
  (∀ (before after : List Byte) (a b : Byte), crc8 (before ++ a :: after) = crc8 (before ++ b :: after) → a = b) ∧
  (∀ (bs : List Byte) (i : Instr), decodeFrame bs = some i → crc8 bs = 0#8) ∧
  crc8 ([49, 50, 51, 52, 53, 54, 55, 56, 57].map (BitVec.ofNat 8)) = 0xF4#8 ∧
  frameOf 0x30 [] = [0x30#8, 0x00#8, 0xF9#8]

/-! ## The design library -/

/-- After the RESET line every memory of the library is cleared (R22): at reset and after every rise of the line. -/
def Obligations.LibraryClearedAfterReset : Prop :=
  ∀ l : Library,
    (l = State.reset.part.lib ∨
      ∃ s t : State, s.part.port.inReset = true ∧ exec .resetRelease s = .next t ∧ l = t.part.lib) →
    l.designs.length = 16 ∧
    (∀ d, d < 16 →
      (l.design d).state = .empty ∧ (l.design d).pages = [] ∧ (l.design d).count = 0 ∧ (l.design d).runs = [] ∧
        (l.design d).startRun = 0 ∧ (l.design d).slots = List.replicate 24 none ∧ (l.design d).result = .none ∧
        (l.design d).derived = none) ∧
    l.freePages = List.range 512 ∧ l.freeRuns = 2048 ∧ l.sealer = none ∧
    ∀ a, readStitch l.stitches a = ⟨.normal, ⟨0, 0⟩⟩

/-- OPEN_DESIGN (R5): taken for an EMPTY design, which becomes LOADING with everything empty; refused with STATE in any other state,
with RANGE for a design above 15. The response answers code 0x10; its payload is composed by log entry 15 and left open here. -/
def Obligations.OpenDesignOpens : Prop :=
  ∀ (s : State) (d : Nat), s.listens →
    (d < 16 → (s.part.lib.design d).state = .empty →
      ∃ items,
        exec (.openDesign d) s =
          .next (s.answered
            { s.part with
              lib := { s.part.lib with
                designs := s.part.lib.designs.set d
                  { state := .loading, pages := [], count := 0, runs := [], startRun := 0,
                    slots := List.replicate 24 none, result := .none, derived := none } } }
            0x10 .done items)) ∧
    (d < 16 → (s.part.lib.design d).state ≠ .empty →
      ∃ items, exec (.openDesign d) s = .next (s.answered s.part 0x10 .state items)) ∧
    (16 ≤ d → exec (.openDesign d) s = .next (s.answered s.part 0x10 .range []))

/-- PUT_STITCHES (R2, R3, R6, R7, R216). The records are stored one by one, each at the stitch index equal to the count when its turn
comes, up to the first that cannot be: one that needs a page with the free list empty is FULL, one that is not legal RANGE (a record
that is both: FULL, the model's choice, log entry 14). The answer carries the number stored, DONE when it is all of them; the records
before a stop stay stored, and no other record of any design reads otherwise than before. A legal record has a kind NORMAL,
JUMP or TRIM and displacements within its format's bound, and is stored as it was sent. A format other than 0 or 1 and a count
outside the format's range are RANGE, a design not in LOADING STATE, with nothing stored. -/
def Obligations.PutStitchesStoresRecords : Prop :=
  (∀ (bound : Int) (r : RawStitch) (v : Stitch),
    legalStitch bound r = some v ↔
      ((r.kind = 0 ∧ v.kind = .normal) ∨ (r.kind = 1 ∧ v.kind = .jump) ∨ (r.kind = 2 ∧ v.kind = .trim)) ∧
        -bound ≤ r.dx ∧ r.dx ≤ bound ∧ -bound ≤ r.dy ∧ r.dy ≤ bound ∧ v.d = ⟨r.dx, r.dy⟩) ∧
  (∀ (s : State) (d format count most k : Nat) (bound : Int) (records : List RawStitch) (stored : List Stitch)
      (st : Status) (pages : Nat → Nat),
    s.listens → s.part.lib.wf → d < 16 → (s.part.lib.design d).state = .loading →
    ((format = 0 ∧ most = 96 ∧ bound = 63) ∨ (format = 1 ∧ most = 64 ∧ bound = 1023)) → 1 ≤ count → count ≤ most →
    records.length = count → stored.length = k → (records.take k).map (legalStitch bound) = stored.map some →
    (∀ j, pages j = ceilDiv ((s.part.lib.design d).count + j) 512) →
    pages k ≤ (s.part.lib.design d).pages.length + s.part.lib.freePages.length →
    ((k = count ∧ st = .done) ∨
      (k < count ∧ (s.part.lib.design d).pages.length + s.part.lib.freePages.length < pages (k + 1) ∧ st = .full) ∨
      (pages (k + 1) ≤ (s.part.lib.design d).pages.length + s.part.lib.freePages.length ∧ st = .range ∧
        ∃ r, records[k]? = some r ∧ legalStitch bound r = none)) →
    ∃ (l : Library) (items : List Item),
      exec (.putStitches d format count records) s =
        .next (s.answered { s.part with lib := l } 0x11 st (.u 1 k :: items)) ∧
      (l.design d).count = (s.part.lib.design d).count + k ∧
      { l.design d with pages := (s.part.lib.design d).pages, count := (s.part.lib.design d).count } =
        s.part.lib.design d ∧
      (∀ j, j < k → some (l.stitch (l.design d) ((s.part.lib.design d).count + j)) = stored[j]?) ∧
      (∀ i, i < (s.part.lib.design d).count →
        l.stitch (l.design d) i = s.part.lib.stitch (s.part.lib.design d) i) ∧
      (∀ e, e < 16 → e ≠ d → l.design e = s.part.lib.design e ∧
        ∀ i, i < (l.design e).count → l.stitch (l.design e) i = s.part.lib.stitch (s.part.lib.design e) i) ∧
      l.freeRuns = s.part.lib.freeRuns ∧ l.sealer = s.part.lib.sealer) ∧
  ∀ (s : State) (d format count : Nat) (records : List RawStitch), s.listens →
    (d < 16 → (s.part.lib.design d).state = .loading →
      (2 ≤ format ∨ count = 0 ∨ (format = 0 ∧ 96 < count) ∨ (format = 1 ∧ 64 < count)) →
      ∃ items, exec (.putStitches d format count records) s = .next (s.answered s.part 0x11 .range items)) ∧
    (d < 16 → (s.part.lib.design d).state ≠ .loading →
      ∃ items, exec (.putStitches d format count records) s = .next (s.answered s.part 0x11 .state items)) ∧
    (16 ≤ d → exec (.putStitches d format count records) s = .next (s.answered s.part 0x11 .range []))

/-- PUT_RUN in LOADING (R4, R8): with every value in its range the run holds the fields given, a first write takes one
descriptor of the pool and a rewrite none; with no descriptor left a first write is refused with FULL; a length, a passes value, an
end shift or a next outside its range, or bytes that are not 0 of an absent one (R209), are refused with RANGE and nothing is
written; outside LOADING the refusal is STATE. A design above 15 or a run index above 511 is refused with RANGE in any state. That
the design and the run index are judged before the state, the state before the other fields and these before the pool is the
model's choice of order (log entry 14). -/
def Obligations.PutRunWritesRun : Prop :=
  (∀ (s : State) (d r : Nat) (f : RunFields), s.listens →
    (16 ≤ d → exec (.putRun d r f) s = .next (s.answered s.part 0x12 .range [])) ∧
    (d < 16 → 512 ≤ r → exec (.putRun d r f) s = .next (s.answered s.part 0x12 .range (s.part.lib.design d).items))) ∧
  ∀ (s : State) (d r : Nat) (f : RunFields), s.listens → d < 16 → r < 512 →
    (∀ run : Run, (s.part.lib.design d).state = .loading →
      run.first = f.first ∧ run.length = f.length ∧ run.passes = f.passes ∧ run.slot = f.slot →
      1 ≤ f.length ∧ f.length ≤ 4096 ∧ 1 ≤ f.passes ∧ f.passes ≤ 255 →
      (f.endShift.pres = 0 ∧ f.endShift.val = (0, 0) ∧ run.endShift = none) ∨
        (f.endShift.pres = 1 ∧ run.endShift = some ⟨f.endShift.val.1, f.endShift.val.2⟩ ∧
          -32767 ≤ f.endShift.val.1 ∧ f.endShift.val.1 ≤ 32767 ∧ -32767 ≤ f.endShift.val.2 ∧
          f.endShift.val.2 ≤ 32767) →
      (f.next.pres = 0 ∧ f.next.val = 0 ∧ run.next = none) ∨
        (f.next.pres = 1 ∧ run.next = some f.next.val ∧ f.next.val < 512) →
      (f.haltAfter = 0 ∧ run.haltAfter = false) ∨ (f.haltAfter = 1 ∧ run.haltAfter = true) →
      (f.trimAfter = 0 ∧ run.trimAfter = false) ∨ (f.trimAfter = 1 ∧ run.trimAfter = true) →
      (((lookupKey r (s.part.lib.design d).runs).isSome = true ∨ 0 < s.part.lib.freeRuns) →
        ∃ (l : Library) (items : List Item),
          exec (.putRun d r f) s = .next (s.answered { s.part with lib := l } 0x12 .done items) ∧
          lookupKey r (l.design d).runs = some run ∧
          (∀ k, k ≠ r → lookupKey k (l.design d).runs = lookupKey k (s.part.lib.design d).runs) ∧
          { l.design d with runs := (s.part.lib.design d).runs } = s.part.lib.design d ∧
          (∀ e, e ≠ d → l.design e = s.part.lib.design e) ∧ l.stitches = s.part.lib.stitches ∧
          l.freePages = s.part.lib.freePages ∧ l.sealer = s.part.lib.sealer ∧
          l.freeRuns + (if (lookupKey r (s.part.lib.design d).runs).isSome then 0 else 1) = s.part.lib.freeRuns) ∧
      ((lookupKey r (s.part.lib.design d).runs).isSome = false → s.part.lib.freeRuns = 0 →
        ∃ items, exec (.putRun d r f) s = .next (s.answered s.part 0x12 .full items))) ∧
    ((s.part.lib.design d).state = .loading →
      (f.length = 0 ∨ 4096 < f.length ∨ f.passes = 0 ∨ 255 < f.passes ∨
        (f.endShift.pres = 1 ∧ (f.endShift.val.1 < -32767 ∨ 32767 < f.endShift.val.1 ∨ f.endShift.val.2 < -32767 ∨
          32767 < f.endShift.val.2)) ∨
        (f.endShift.pres = 0 ∧ f.endShift.val ≠ (0, 0)) ∨ (f.next.pres = 0 ∧ f.next.val ≠ 0) ∨
        (f.next.pres = 1 ∧ 511 < f.next.val) ∨ 1 < f.endShift.pres ∨ 1 < f.next.pres ∨ 1 < f.haltAfter ∨
        1 < f.trimAfter) →
      ∃ items, exec (.putRun d r f) s = .next (s.answered s.part 0x12 .range items)) ∧
    ((s.part.lib.design d).state ≠ .loading →
      ∃ items, exec (.putRun d r f) s = .next (s.answered s.part 0x12 .state items))

/-- RETIRE RUN (R9): in LOADING a written run leaves the run set and frees its descriptor, other runs and the start run are kept as
they are, and DONE is answered; a run not written is refused with NO_RECORD, and in another state the refusal is STATE. A design
above 15 or a run index above 511 is refused with RANGE in any state (R209). That STATE comes before NO_RECORD is the model's order
(log entry 14), what the RANGE carries log entry 49. -/
def Obligations.RetireRunFreesDescriptor : Prop :=
  (∀ (s : State) (d r : Nat), s.listens →
    (16 ≤ d → exec (.retireRun d r) s = .next (s.answered s.part 0x13 .range [])) ∧
    (d < 16 → 512 ≤ r → exec (.retireRun d r) s = .next (s.answered s.part 0x13 .range (s.part.lib.design d).items))) ∧
  ∀ (s : State) (d r : Nat), s.listens → d < 16 → r < 512 →
    ((s.part.lib.design d).state = .loading → (lookupKey r (s.part.lib.design d).runs).isSome = true →
      ∃ (l : Library) (items : List Item),
        exec (.retireRun d r) s = .next (s.answered { s.part with lib := l } 0x13 .done items) ∧
        lookupKey r (l.design d).runs = none ∧
        (∀ k, k ≠ r → lookupKey k (l.design d).runs = lookupKey k (s.part.lib.design d).runs) ∧
        { l.design d with runs := (s.part.lib.design d).runs } = s.part.lib.design d ∧
        (∀ e, e ≠ d → l.design e = s.part.lib.design e) ∧ l.freeRuns = s.part.lib.freeRuns + 1 ∧
        l.stitches = s.part.lib.stitches ∧ l.freePages = s.part.lib.freePages ∧ l.sealer = s.part.lib.sealer) ∧
    ((s.part.lib.design d).state = .loading → (lookupKey r (s.part.lib.design d).runs).isSome = false →
      ∃ items, exec (.retireRun d r) s = .next (s.answered s.part 0x13 .noRecord items)) ∧
    ((s.part.lib.design d).state ≠ .loading →
      ∃ items, exec (.retireRun d r) s = .next (s.answered s.part 0x13 .state items))

/-- AMEND DESIGN (R10): the start run in LOADING, slot colours in every state but EMPTY, both at once, all in range; each slot named
takes the colour code given for it, or becomes absent. With a slot named twice the last colour code stays, and a request that gives
nothing is done (the model's choices, log entry 50). An EMPTY design, or a start run given outside LOADING, is refused with STATE;
a run index, a slot or a selector outside its range, bytes that are not 0 of a field not given or absent (R209), or a design
above 15, with RANGE; a refusal changes nothing. That STATE is
answered before RANGE, where both apply, is the model's choice of order (log entry 14). -/
def Obligations.AmendDesignSetsFields : Prop :=
  ∀ (s : State) (d : Nat) (startRun : Given Nat) (colours : List SlotColour), s.listens →
    (d < 16 → (s.part.lib.design d).state ≠ .empty →
      ((startRun.sel = 0 ∧ startRun.val = 0) ∨
        (startRun.sel = 1 ∧ startRun.val < 512 ∧ (s.part.lib.design d).state = .loading)) →
      (∀ c ∈ colours, 1 ≤ c.slot ∧ c.slot ≤ 24 ∧
        ((c.colour.pres = 0 ∧ c.colour.val = 0) ∨ c.colour.pres = 1)) →
      ∃ items,
        exec (.amendDesign d startRun colours) s =
          .next (s.answered
            { s.part with
              lib := { s.part.lib with
                designs := s.part.lib.designs.set d
                  { s.part.lib.design d with
                    startRun := if startRun.sel = 1 then startRun.val else (s.part.lib.design d).startRun
                    slots := colours.foldl
                      (fun t c => t.set (c.slot - 1) (if c.colour.pres = 1 then some c.colour.val else none))
                      (s.part.lib.design d).slots } } }
            0x14 .done items)) ∧
    (d < 16 → ((s.part.lib.design d).state = .empty ∨
        (startRun.sel = 1 ∧ (s.part.lib.design d).state ≠ .loading)) →
      ∃ items, exec (.amendDesign d startRun colours) s = .next (s.answered s.part 0x14 .state items)) ∧
    (d < 16 → (s.part.lib.design d).state ≠ .empty → (startRun.sel = 1 → (s.part.lib.design d).state = .loading) →
      (1 < startRun.sel ∨ (startRun.sel = 1 ∧ 511 < startRun.val) ∨ (startRun.sel = 0 ∧ startRun.val ≠ 0) ∨
        ∃ c ∈ colours,
          c.slot = 0 ∨ 24 < c.slot ∨ 1 < c.colour.pres ∨ (c.colour.pres = 0 ∧ c.colour.val ≠ 0)) →
      ∃ items, exec (.amendDesign d startRun colours) s = .next (s.answered s.part 0x14 .range items)) ∧
    (16 ≤ d → exec (.amendDesign d startRun colours) s = .next (s.answered s.part 0x14 .range []))

/-- SEAL (R13): taken in LOADING with the sealer free, refused with STATE outside LOADING and with BUSY while the sealer holds another
design; a refusal changes nothing, a taken seal keeps the seal result, and LOOKUP DESIGN during SEALING answers the record with that
result and no derived fields. A design above 15 is refused with RANGE (R209). -/
def Obligations.SealTaken : Prop :=
  (∀ (s : State) (d : Nat), s.listens → 16 ≤ d → exec (.seal d) s = .next (s.answered s.part 0x15 .range [])) ∧
  ∀ (s : State) (d : Nat), s.listens → d < 16 →
    ((s.part.lib.design d).state = .loading → s.part.lib.sealer = none →
      ∃ items,
        exec (.seal d) s =
          .next (s.answered
            { s.part with
              lib := { s.part.lib with
                sealer := some d
                designs := s.part.lib.designs.set d { s.part.lib.design d with state := .sealing } } }
            0x15 .taken items)) ∧
    ((s.part.lib.design d).state ≠ .loading →
      ∃ items, exec (.seal d) s = .next (s.answered s.part 0x15 .state items)) ∧
    (∀ e, (s.part.lib.design d).state = .loading → s.part.lib.sealer = some e →
      ∃ items, exec (.seal d) s = .next (s.answered s.part 0x15 .busy items)) ∧
    ((s.part.lib.design d).state = .sealing → s.part.designsAgree →
      (s.part.lib.design d).derived = none ∧
      exec (.lookupDesign d) s = .next (s.answered s.part 0x17 .done (s.part.lib.design d).items))

/-- SEAL_COMPLETE (R17): the walk's derived fields make the design SEALED with result OK; a failed check returns it to LOADING with
the error kind and its run, everything stored kept; the sealer is free and SEALED is raised in both cases. With no seal in flight the
event finds nothing to do (the model's choice, log entry 47). The walk (R14, R15): from the start run along next, the checks 2 to 8
of the table at each run in its order, the first that fails giving its error kind and the run, NO_START the start run value; without
an error the runs passed are the chain, in their order, each with the base ordinal, start position and pass shift it has there. -/
def Obligations.SealCompletes : Prop :=
  (∀ (l : Library) (x : Design) (base : List (Nat × Run) → Nat) (start : List (Nat × Run) → Vec) (shift : Run → Vec)
      (check : List (Nat × Run) → Nat → Run → Option SealError) (comes : List (Nat × Run) → Nat → Run → Prop)
      (passed : List (Nat × Run) → Prop),
    (∀ e ∈ x.runs, e.1 < 512) →
    (∀ before, base before =
      (before.map fun a => a.2.length * a.2.passes + if a.2.endShift.isSome then 1 else 0).sum) →
    (∀ r, shift r = sumVecs (l.displacements x r.first r.length)) →
    (∀ before, start before =
      before.foldl (fun v a => (v.add ((shift a.2).times a.2.passes)).add (a.2.endShift.getD ⟨0, 0⟩)) ⟨0, 0⟩) →
    (∀ before i r, check before i r =
      if x.count < r.first + r.length then some .badRange
      else if r.slot = 0 ∨ 24 < r.slot then some .badSlot
      else if (List.range r.length).any fun j =>
          decide ((l.stitch x (r.first + j)).kind = .trim ∧ (l.stitch x (r.first + j)).d ≠ ⟨0, 0⟩) then some .trimShift
      else if 16777215 < base before + (r.length * r.passes + if r.endShift.isSome then 1 else 0) then some .tooLong
      else if (runExtent r (start before) (l.displacements x r.first r.length)).inside
          ⟨-8388607, 8388607, -8388607, 8388607⟩ = false then some .extent
      else
        match r.next with
        | none => none
        | some n =>
          if lookupKey n x.runs = none then some .noRun
          else if n = i ∨ n ∈ before.map Prod.fst then some .loop
          else none) →
    (∀ before i r, comes before i r ↔ lookupKey i x.runs = some r ∧
      ((before = [] ∧ i = x.startRun) ∨ ∃ a, before.getLast? = some a ∧ a.2.next = some i)) →
    (∀ path, passed path ↔
      ∀ pre i r post, path = pre ++ (i, r) :: post → comes pre i r ∧ check pre i r = none) →
    (∀ k i, sealDesign l x = .error (k, i) ↔
      (lookupKey x.startRun x.runs = none ∧ k = .noStart ∧ i = x.startRun) ∨
        ∃ before r, passed before ∧ comes before i r ∧ check before i r = some k) ∧
    ∀ v, sealDesign l x = .ok v →
      ∃ path a, passed path ∧ path.getLast? = some a ∧ a.2.next = none ∧ v.total = base path ∧
        v.chain.map ChainEntry.run = path.map Prod.fst ∧
        ∀ pre i r post, path = pre ++ (i, r) :: post →
          ∃ e, v.chain[pre.length]? = some e ∧ e.run = i ∧ e.base = base pre ∧ e.start = start pre ∧ e.shift = shift r) ∧
  ∀ s : State, s.awake →
    (∀ d v, s.part.lib.sealer = some d → sealDesign s.part.lib (s.part.lib.design d) = .ok v →
      exec .sealComplete s =
        .next (s.put
          { s.part with
            lib := { s.part.lib with
              sealer := none
              designs := s.part.lib.designs.set d
                { s.part.lib.design d with state := .sealed, result := .ok, derived := some v } }
            port := { s.part.port with notices := { s.part.port.notices with sealed := true } } })) ∧
    (∀ d k r, s.part.lib.sealer = some d → sealDesign s.part.lib (s.part.lib.design d) = .error (k, r) →
      exec .sealComplete s =
        .next (s.put
          { s.part with
            lib := { s.part.lib with
              sealer := none
              designs := s.part.lib.designs.set d
                { s.part.lib.design d with state := .loading, result := .error k r } }
            port := { s.part.port with notices := { s.part.port.notices with sealed := true } } })) ∧
    (s.part.lib.sealer = none → exec .sealComplete s = .next s)

/-- RETIRE DESIGN (R19, R20, R195): a LOADING, SEALING or SEALED design, named by no live case or with DISCARD, becomes EMPTY; its
pages join the end of the free list in page list order, its descriptors are free, its seal is abandoned without notice and the cases
that name it are free. An EMPTY design is refused with NO_RECORD, the ACTIVE one with STATE, one that live cases name with CASES. A
design above 15 is refused with RANGE, and so is a DISCARD that is no flag where neither NO_RECORD nor STATE comes before it (R209;
the order is the model's choice, log entry 14). -/
def Obligations.RetireDesignFreesPools : Prop :=
  (∀ (s : State) (d discard : Nat), s.listens →
    (16 ≤ d → exec (.retireDesign d discard) s = .next (s.answered s.part 0x16 .range [])) ∧
    (d < 16 → (s.part.lib.design d).state ≠ .empty → (s.part.lib.design d).state ≠ .active → 2 ≤ discard →
      exec (.retireDesign d discard) s = .next (s.answered s.part 0x16 .range (s.part.lib.design d).items))) ∧
  ∀ (s : State) (d discard : Nat), s.listens → d < 16 →
    (((s.part.lib.design d).state = .loading ∨ (s.part.lib.design d).state = .sealing ∨
        (s.part.lib.design d).state = .sealed) →
      discard = 1 ∨ (discard = 0 ∧ s.part.casesName d = false) →
      ∃ items,
        exec (.retireDesign d discard) s =
          .next (s.answered
            { s.part with
              lib := { s.part.lib with
                freePages := s.part.lib.freePages ++ (s.part.lib.design d).pages
                freeRuns := s.part.lib.freeRuns + (s.part.lib.design d).runs.length
                sealer := if s.part.lib.sealer = some d then none else s.part.lib.sealer
                designs := s.part.lib.designs.set d (State.reset.part.lib.design d) }
              cases := { s.part.cases with
                records := s.part.cases.records.map fun k =>
                  k.bind fun r => if r.design = d then none else some r } }
            0x16 .done items)) ∧
    (((s.part.lib.design d).state = .loading ∨ (s.part.lib.design d).state = .sealing ∨
        (s.part.lib.design d).state = .sealed) →
      discard = 0 → s.part.casesName d = true →
      ∃ items, exec (.retireDesign d discard) s = .next (s.answered s.part 0x16 .cases items)) ∧
    ((s.part.lib.design d).state = .empty →
      ∃ items, exec (.retireDesign d discard) s = .next (s.answered s.part 0x16 .noRecord items)) ∧
    ((s.part.lib.design d).state = .active →
      ∃ items, exec (.retireDesign d discard) s = .next (s.answered s.part 0x16 .state items))

/-- The lookups of the library (R24): DONE with the record asked for, LOOKUP RUN with the derived fields of the run's entry in the
chain when it has one, and nothing changed but the held response. A design above 15 is refused with RANGE; LOOKUP RUN with RANGE
for an index above 511 and with NO_RECORD for a run not written; LOOKUP STITCHES with RANGE for n outside 1 to 64 or records beyond
the count; LOOKUP ORDINAL with STATE outside SEALED and ACTIVE, with RANGE for an ordinal that is not served, as none from T on is.
A refusal carries the design it names (R210; the model's choice for these requests, log entry 49). -/
def Obligations.LibraryLookups : Prop :=
  ∀ s : State, s.listens →
    (∀ (d : Nat) (x : Design), d < 16 → x = s.part.lib.design d →
      exec (.lookupDesign d) s = .next (s.answered s.part 0x17 .done x.items) ∧
      (∀ r run, r < 512 → lookupKey r x.runs = some run →
        exec (.lookupRun d r) s =
          .next (s.answered s.part 0x18 .done
            (run.items (x.derived.bind fun v => v.chain.find? fun e => decide (e.run = r))))) ∧
      (∀ r, 512 ≤ r → exec (.lookupRun d r) s = .next (s.answered s.part 0x18 .range x.items)) ∧
      (∀ r, r < 512 → lookupKey r x.runs = none →
        exec (.lookupRun d r) s = .next (s.answered s.part 0x18 .noRecord x.items)) ∧
      (∀ i n, 1 ≤ n → n ≤ 64 → i + n ≤ x.count →
        exec (.lookupStitches d i n) s =
          .next (s.answered s.part 0x19 .done
            (.u 1 n :: (List.range n).map fun j => (s.part.lib.stitch x (i + j)).item))) ∧
      (∀ i n, n = 0 ∨ 64 < n ∨ x.count < i + n →
        exec (.lookupStitches d i n) s = .next (s.answered s.part 0x19 .range x.items)) ∧
      (∀ o, x.state ≠ .sealed → x.state ≠ .active →
        exec (.lookupOrdinal d o) s = .next (s.answered s.part 0x1A .state x.items)) ∧
      (∀ o, x.state = .sealed ∨ x.state = .active →
        (∀ sv, s.part.lib.serve x o = some sv →
          exec (.lookupOrdinal d o) s = .next (s.answered s.part 0x1A .done sv.items)) ∧
        (s.part.lib.serve x o = none →
          exec (.lookupOrdinal d o) s = .next (s.answered s.part 0x1A .range x.items)) ∧
        (∀ v, x.derived = some v → v.total ≤ o →
          exec (.lookupOrdinal d o) s = .next (s.answered s.part 0x1A .range x.items)))) ∧
    (∀ d, 16 ≤ d →
      exec (.lookupDesign d) s = .next (s.answered s.part 0x17 .range []) ∧
      (∀ r, exec (.lookupRun d r) s = .next (s.answered s.part 0x18 .range [])) ∧
      (∀ i n, exec (.lookupStitches d i n) s = .next (s.answered s.part 0x19 .range [])) ∧
      ∀ o, exec (.lookupOrdinal d o) s = .next (s.answered s.part 0x1A .range [])) ∧
    exec .lookupLibrary s = .next (s.answered s.part 0x1B .done s.part.lib.items)

/-- A sealed design numbers its ordinals without gaps (R11, R12, R15, R23): the chain's base ordinals follow one another from 0 to
T, and every ordinal below T is served once, by a run of the chain, with the stitch record of its place in the pass or its end shift,
in the colour block that contains it and has its slot. -/
def Obligations.SealedDesignServesEveryOrdinal : Prop :=
  ∀ (l : Library) (x : Design) (v : Derived),
    (∀ e ∈ x.runs, 1 ≤ e.2.length ∧ 1 ≤ e.2.passes) → sealDesign l x = .ok v →
    v.total ≤ 16777215 ∧ v.total = (v.chain.map ChainEntry.count).sum ∧ (v.chain.head?.map ChainEntry.base) = some 0 ∧
    (∀ i a b, v.chain[i]? = some a → v.chain[i + 1]? = some b → b.base = a.base + a.count) ∧
    ∀ o, o < v.total →
      ∃ (sv : Served) (e : ChainEntry) (r : Run),
        l.serve { x with derived := some v } o = some sv ∧ sv.ordinal = o ∧ e ∈ v.chain ∧ sv.run = e.run ∧
        lookupKey e.run x.runs = some r ∧ e.base ≤ o ∧ o < e.base + e.count ∧ sv.slot = r.slot ∧
        (sv.stitch = none ↔ r.length * r.passes ≤ o - e.base) ∧
        (∀ i, sv.stitch = some i →
          i = r.first + (o - e.base) % r.length ∧ sv.kind = (l.stitch x i).kind ∧ sv.d = (l.stitch x i).d) ∧
        (sv.stitch = none → sv.kind = .jump ∧ r.endShift = some sv.d) ∧
        sv.block ∈ v.blocks ∧ sv.block.slot = r.slot ∧ sv.block.first ≤ o ∧ o ≤ sv.block.last ∧
        (sv.designEnd = true ↔ o + 1 = v.total)

/-- The position computed for an ordinal from the run's start, pass shift and partial sums is the position before it plus its
displacement (R30), so that accumulating along the design gives the same position; and it lies in the design's extent (R16). -/
def Obligations.PositionsFollowDisplacements : Prop :=
  ∀ (l : Library) (x : Design) (v : Derived),
    (∀ e ∈ x.runs, 1 ≤ e.2.length ∧ 1 ≤ e.2.passes) → sealDesign l x = .ok v →
    ∀ o sv, o < v.total → l.serve { x with derived := some v } o = some sv →
      l.position { x with derived := some v } o = (l.standing { x with derived := some v } o).add sv.d ∧
      v.extent.contains (l.position { x with derived := some v } o) = true

/-- Every step keeps the library's pools (R2, R4): each page is free or in exactly one page list, each descriptor free or claimed, a
design has the pages its count needs, the stitch store is in its canonical form. -/
def Obligations.LibraryPoolsConserved : Prop :=
  ∀ s t : State, s.part.lib.wf → step s = .next t → t.part.lib.wf

/-- Every step keeps the design states in agreement with the run controller and the sealer (R1, R13, R84). -/
def Obligations.DesignStatesAgree : Prop :=
  ∀ s t : State, s.part.designsAgree → step s = .next t → t.part.designsAgree

/-- Every step keeps every parameter in its range, the slew floor among them (R35, R61, R62, R134, R166, R183, R212); and with it what
other statements suppose: every entry of the tables of heads, threads and cases is there (R151, R169, R185), the sample schedule
stays in order of angle with at most 32 entries (R155), the shaft angle below 1,024 (R65), and every run of a design has a length and a
pass count of at least 1 (R8). -/
def Obligations.ParametersStayInRange : Prop :=
  ∀ s t : State, step s = .next t →
    (s.part.par.inRange → t.part.par.inRange) ∧ (s.part.complete → t.part.complete) ∧
    (s.part.mon.schedule.Pairwise (fun a b => a.angle ≤ b.angle) ∧ s.part.mon.schedule.length ≤ 32 →
      t.part.mon.schedule.Pairwise (fun a b => a.angle ≤ b.angle) ∧ t.part.mon.schedule.length ≤ 32) ∧
    (s.part.shaft.angle < 1024 → t.part.shaft.angle < 1024) ∧
    ((∀ x ∈ s.part.lib.designs, ∀ e ∈ x.runs, 1 ≤ e.2.length ∧ 1 ≤ e.2.passes) →
      ∀ x ∈ t.part.lib.designs, ∀ e ∈ x.runs, 1 ≤ e.2.length ∧ 1 ≤ e.2.passes)

/-- The invariants hold right after reset. -/
def Obligations.InvariantsHoldAtReset : Prop :=
  State.reset.part.lib.wf ∧ State.reset.part.designsAgree ∧ State.reset.part.par.inRange ∧ State.reset.part.complete ∧
    State.reset.part.mon.schedule.Pairwise (fun a b => a.angle ≤ b.angle) ∧ State.reset.part.mon.schedule.length ≤ 32 ∧
    State.reset.part.shaft.angle < 1024 ∧
    ∀ x ∈ State.reset.part.lib.designs, ∀ e ∈ x.runs, 1 ≤ e.2.length ∧ 1 ≤ e.2.passes

/-! ## Placement and the frame -/

/-- AMEND HOOP and LOOKUP HOOP (R27). Outside TRAVERSING and LOCKED a field whose four values lie in range, whose mins do not exceed
its maxes, that contains the home position, the present position of a homed frame and the active design's placed extent
replaces the field; any other is refused with RANGE. N is the count at this moment: during a move it is read anew (log
entry 5). BUSY in TRAVERSING, LOCKED in LOCKED, for a field out of range too: that the state is judged first is the model's choice
of order (log entry 14). LOOKUP HOOP answers in every state. -/
def Obligations.HoopFieldAmended : Prop :=
  ∀ (s : State) (a b c d : Int), s.listens →
    (s.part.ctl.state ≠ .traversing → s.part.ctl.state ≠ .locked →
      ∃ (n : Vec) (f : Nat) (p : Part),
        p = { s.part with pos := { s.part.pos with n := n }, free := f } ∧ (s.part.moving = false → p = s.part) ∧
        ∀ ok : Prop,
          (ok ↔
            (-8388607 ≤ a ∧ a ≤ 0 ∧ 0 ≤ b ∧ b ≤ 8388607) ∧ (-8388607 ≤ c ∧ c ≤ 0 ∧ 0 ≤ d ∧ d ≤ 8388607) ∧
              (s.part.pos.homed = true → a ≤ n.x ∧ n.x ≤ b ∧ c ≤ n.y ∧ n.y ≤ d) ∧
              ∀ k pl v, s.part.ctl.design = some k → s.part.pos.placement = some pl →
                (s.part.lib.design k).derived = some v → pl.fits s.part.par v.extent ⟨a, b, c, d⟩ = true) →
          (ok →
            exec (.amendHoop a b c d) s =
              .next (s.answered { p with pos := { p.pos with hoop := ⟨a, b, c, d⟩ } } 0x20 .done
                [.s 4 a, .s 4 b, .s 4 c, .s 4 d])) ∧
          (¬ok → exec (.amendHoop a b c d) s = .next (s.answered p 0x20 .range s.part.pos.hoop.items))) ∧
    (s.part.ctl.state = .traversing →
      exec (.amendHoop a b c d) s = .next (s.answered s.part 0x20 .busy s.part.pos.hoop.items)) ∧
    (s.part.ctl.state = .locked →
      exec (.amendHoop a b c d) s = .next (s.answered s.part 0x20 .locked s.part.pos.hoop.items)) ∧
    exec .lookupHoop s = .next (s.answered s.part 0x21 .done s.part.pos.hoop.items)

/-- The extent test of R33 over the corners suffices: a placement under which the extent's four corners lie in a field puts every
design position of the extent inside the field. -/
def Obligations.FittingExtentKeepsEveryPositionInside : Prop :=
  ∀ (pl : Placement) (q : Params) (e hoop : Box) (v : Vec),
    pl.fits q e hoop = true → e.contains v = true → hoop.contains (pl.committed (pl.ideal q v)) = true

/-- The committed position is the ideal position rounded to the nearest step, half a step upward (R29), and the ideal position of a sum
of displacements is the sum of theirs (R26, R30, R31): accumulation and the direct computation agree, and a displacement taken
back returns to the same position (R32). -/
def Obligations.PositionsRoundAndAccumulateExactly : Prop :=
  (∀ o p : Int, -131072 < 262144 * (committedAxis o p - o) - p ∧ 262144 * (committedAxis o p - o) - p ≤ 131072) ∧
  (∀ (pl : Placement) (q : Params) (a b : Vec), pl.ideal q (a.add b) = (pl.ideal q a).add (pl.ideal q b)) ∧
  ∀ (pl : Placement) (q : Params) (a b : Vec), ((pl.ideal q a).add (pl.ideal q b)).sub (pl.ideal q b) = pl.ideal q a

/-- HOME (R36) and JOG (R37) in UNREADY, and how both are refused elsewhere. HOME clears homed and starts the search of both axes, with
the direction outputs by the sensors; JOG runs one leg to the target, clamped to the hoop field, or completes at once when the
frame is there. Both flush the planner on entry into TRAVERSING (R46). The set speed that becomes the requested speed there is the
model's reading (log entry 23), a JOG mode out of range judged before homed its choice of order (log entry 14), and that REPAIRING
answers STATE on the legs of a repair run too its choice (log entry 56). -/
def Obligations.HomeAndJogTaken : Prop :=
  ∀ s : State, s.listens →
    (s.part.ctl.state = .unready →
      exec .home s =
        .next (s.answered
          { s.part.flush with
            ctl := { s.part.ctl with state := .traversing, travel := some ⟨.home, .frame ⟨0, 0⟩, false, none⟩ }
            plan := { s.part.flush.plan with vSet := s.part.plan.requested }
            pos := { s.part.flush.pos with
              homed := false, homeResult := .none, dirX := !s.part.lines.xHome, dirY := !s.part.lines.yHome
              move := some
                { kind := .homeSearch, start := s.part.pos.n, target := ⟨0, 0⟩, goal := ⟨0, 0⟩, interrupted := false
                  stopping := false, rate := s.part.par.fTrav
                  searchX := if s.part.lines.xHome then .seeking s.part.pos.n.x else .leaving
                  searchY := if s.part.lines.yHome then .seeking s.part.pos.n.y else .leaving } } }
          0x22 .taken [])) ∧
    (∀ (mode : Nat) (x y : Int) (t : Vec), s.part.ctl.state = .unready → s.part.pos.homed = true →
      (mode = 0 ∧ t = ⟨clampInt s.part.pos.hoop.minX s.part.pos.hoop.maxX x,
          clampInt s.part.pos.hoop.minY s.part.pos.hoop.maxY y⟩) ∨
        (mode = 1 ∧ t = ⟨clampInt s.part.pos.hoop.minX s.part.pos.hoop.maxX (s.part.pos.n.x + x),
          clampInt s.part.pos.hoop.minY s.part.pos.hoop.maxY (s.part.pos.n.y + y)⟩) →
      (t ≠ s.part.pos.n →
        exec (.jog mode x y) s =
          .next (s.answered
            { s.part.flush with
              ctl := { s.part.ctl with state := .traversing, travel := some ⟨.jog, .frame t, false, none⟩ }
              plan := { s.part.flush.plan with vSet := s.part.plan.requested }
              pos := { s.part.flush.pos with
                dirX := if t.x = s.part.pos.n.x then s.part.pos.dirX else decide (s.part.pos.n.x < t.x)
                dirY := if t.y = s.part.pos.n.y then s.part.pos.dirY else decide (s.part.pos.n.y < t.y)
                move := some
                  { kind := .leg, start := s.part.pos.n, target := t, goal := t, interrupted := false
                    stopping := false, rate := s.part.par.fTrav, searchX := .found, searchY := .found } } }
            0x23 .taken [.s 4 t.x, .s 4 t.y])) ∧
      (t = s.part.pos.n →
        ∃ p : Part,
          exec (.jog mode x y) s = .next (s.answered p 0x23 .taken [.s 4 t.x, .s 4 t.y]) ∧
          p.ctl.state = .unready ∧ p.pos = s.part.flush.pos ∧ p.port.notices.stopped = true)) ∧
    (∀ (mode : Nat) (x y : Int), s.part.ctl.state = .unready →
      (mode < 2 → s.part.pos.homed = false → exec (.jog mode x y) s = .next (s.answered s.part 0x23 .notHomed [])) ∧
      (2 ≤ mode → exec (.jog mode x y) s = .next (s.answered s.part 0x23 .range []))) ∧
    ∀ (mode : Nat) (x y : Int) (st : Status), s.part.ctl.state ≠ .unready →
      st = (match s.part.ctl.state with
        | .traversing => Status.busy
        | .locked => Status.locked
        | _ => Status.state) →
      exec .home s = .next (s.answered s.part 0x22 st []) ∧
      exec (.jog mode x y) s = .next (s.answered s.part 0x23 st [])

/-- The sensor edges of a home search (R36), on either axis. An active edge of an axis that seeks sets its N to 0; when the other axis
has found its sensor the search ends: homed, result OK, the HOMED notice and UNREADY. An inactive edge of an axis that leaves
its sensor turns it negative. An axis that has emitted 1,048,576 pulses of its negative run ends the search: not homed, result
NOT_FOUND, the HOMED notice and UNREADY. With no search running an edge only moves the level of its line, and HOME_NOT_FOUND of an
axis that is not in its negative run does nothing (log entry 47). A search restarted by CLEAR (R40) ends the CLEAR with it (R106):
HOMED and CLEARED raised, UNREADY, the lock cause cleared, v_set kept (log entry 23), the locked-from record absent (log entry
53). -/
def Obligations.HomeSearchFollowsItsSensors : Prop :=
  (∀ (s : State) (m : Move), s.awake → s.part.pos.move = some m → m.kind = .homeSearch → m.interrupted = false →
    (∀ a, m.searchX = .seeking a → m.searchY = .found → s.part.travelKind = some .home →
      ∃ t : State, exec (.homeSensorEdge .x true) s = .next t ∧ t.part.pos.n = ⟨0, s.part.pos.n.y⟩ ∧
        t.part.pos.homed = true ∧ t.part.pos.homeResult = .ok ∧ t.part.pos.move = none ∧ t.part.ctl.state = .unready ∧
        t.part.port.notices.homed = true ∧ t.part.lines = { s.part.lines with xHome := false } ∧
        t.part.pos.hoop = s.part.pos.hoop ∧ t.part.lib = s.part.lib ∧ t.part.par = s.part.par ∧
        t.part.maps = s.part.maps ∧ t.part.arb = s.part.arb ∧ t.part.heads = s.part.heads) ∧
    (∀ a, m.searchX = .seeking a → m.searchY ≠ .found →
      ∃ (t : State) (y : Int), exec (.homeSensorEdge .x true) s = .next t ∧ t.part.pos.n = ⟨0, y⟩ ∧
        t.part.pos.move = some { m with searchX := .found } ∧ t.part.ctl = s.part.ctl ∧
        t.part.pos.homed = s.part.pos.homed ∧ t.part.port = s.part.port ∧ t.part.plan = s.part.plan) ∧
    (m.searchX = .leaving →
      ∃ (t : State) (x : Int), exec (.homeSensorEdge .x false) s = .next t ∧ s.part.pos.n.x ≤ x ∧
        t.part.pos.n.x = x ∧ t.part.pos.move = some { m with searchX := .seeking x } ∧ t.part.pos.dirX = false ∧
        t.part.ctl = s.part.ctl ∧ t.part.pos.homed = s.part.pos.homed ∧ t.part.port = s.part.port) ∧
    (∀ a, m.searchX = .seeking a → s.part.travelKind = some .home →
      ∃ t : State, exec (.homeNotFound .x) s = .next t ∧ t.part.pos.n.x = a - 1048576 ∧ t.part.pos.homed = false ∧
        t.part.pos.homeResult = .notFound ∧ t.part.pos.move = none ∧ t.part.ctl.state = .unready ∧
        t.part.port.notices.homed = true ∧ t.part.lib = s.part.lib ∧ t.part.par = s.part.par) ∧
    (∀ a, m.searchY = .seeking a → m.searchX = .found → s.part.travelKind = some .home →
      ∃ t : State, exec (.homeSensorEdge .y true) s = .next t ∧ t.part.pos.n = ⟨s.part.pos.n.x, 0⟩ ∧
        t.part.pos.homed = true ∧ t.part.pos.homeResult = .ok ∧ t.part.pos.move = none ∧ t.part.ctl.state = .unready ∧
        t.part.port.notices.homed = true ∧ t.part.lines = { s.part.lines with yHome := false } ∧
        t.part.pos.hoop = s.part.pos.hoop ∧ t.part.lib = s.part.lib ∧ t.part.par = s.part.par ∧
        t.part.maps = s.part.maps ∧ t.part.arb = s.part.arb ∧ t.part.heads = s.part.heads) ∧
    (∀ a, m.searchY = .seeking a → m.searchX ≠ .found →
      ∃ (t : State) (x : Int), exec (.homeSensorEdge .y true) s = .next t ∧ t.part.pos.n = ⟨x, 0⟩ ∧
        t.part.pos.move = some { m with searchY := .found } ∧ t.part.ctl = s.part.ctl ∧
        t.part.pos.homed = s.part.pos.homed ∧ t.part.port = s.part.port ∧ t.part.plan = s.part.plan) ∧
    (m.searchY = .leaving →
      ∃ (t : State) (y : Int), exec (.homeSensorEdge .y false) s = .next t ∧ s.part.pos.n.y ≤ y ∧
        t.part.pos.n.y = y ∧ t.part.pos.move = some { m with searchY := .seeking y } ∧ t.part.pos.dirY = false ∧
        t.part.ctl = s.part.ctl ∧ t.part.pos.homed = s.part.pos.homed ∧ t.part.port = s.part.port) ∧
    (∀ a, m.searchY = .seeking a → s.part.travelKind = some .home →
      ∃ t : State, exec (.homeNotFound .y) s = .next t ∧ t.part.pos.n.y = a - 1048576 ∧ t.part.pos.homed = false ∧
        t.part.pos.homeResult = .notFound ∧ t.part.pos.move = none ∧ t.part.ctl.state = .unready ∧
        t.part.port.notices.homed = true ∧ t.part.lib = s.part.lib ∧ t.part.par = s.part.par) ∧
    ∀ (c : Instr) (found : Bool) (a : Int), s.part.travelKind = some .clear → s.part.ctl.design = none →
      ((c = .homeSensorEdge .x true ∧ found = true ∧ m.searchX = .seeking a ∧ m.searchY = .found) ∨
        (c = .homeSensorEdge .y true ∧ found = true ∧ m.searchY = .seeking a ∧ m.searchX = .found) ∨
        (c = .homeNotFound .x ∧ found = false ∧ m.searchX = .seeking a) ∨
        (c = .homeNotFound .y ∧ found = false ∧ m.searchY = .seeking a)) →
      ∃ t : State, exec c s = .next t ∧ t.part.pos.homed = found ∧
        t.part.pos.homeResult = (if found then .ok else .notFound) ∧ t.part.pos.move = none ∧
        (c = .homeSensorEdge .x true → t.part.pos.n = ⟨0, s.part.pos.n.y⟩) ∧
        (c = .homeSensorEdge .y true → t.part.pos.n = ⟨s.part.pos.n.x, 0⟩) ∧
        (c = .homeNotFound .x → t.part.pos.n.x = a - 1048576) ∧ (c = .homeNotFound .y → t.part.pos.n.y = a - 1048576) ∧
        t.part.ctl =
          { s.part.ctl with
            state := .unready, cause := .none, lockCause := none, lockedFrom := none, phase := none, origin := none
            pending := none, change := none, travel := none, repair := none } ∧
        t.part.port.notices = { s.part.port.notices with homed := true, cleared := true } ∧
        t.part.plan.vSet = s.part.plan.vSet ∧ t.part.plan.queue = [] ∧ t.part.shaft.drive = .disabled ∧
        t.part.pos.hoop = s.part.pos.hoop ∧ t.part.lib = s.part.lib ∧ t.part.par = s.part.par ∧
        t.part.maps = s.part.maps ∧ t.part.arb = s.part.arb ∧ t.part.heads = s.part.heads ∧
        t.part.cases.records = s.part.cases.records) ∧
  ∀ (s : State) (active : Bool), s.awake →
    ((∀ m, s.part.pos.move = some m → m.kind ≠ .homeSearch ∨ m.interrupted = true) →
      exec (.homeSensorEdge .x active) s =
        .next (s.put { s.part with lines := { s.part.lines with xHome := !active } }) ∧
      exec (.homeSensorEdge .y active) s =
        .next (s.put { s.part with lines := { s.part.lines with yHome := !active } }) ∧
      ∀ axis, exec (.homeNotFound axis) s = .next s) ∧
    ∀ (axis : Axis) (m : Move), s.part.pos.move = some m →
      (∀ a : Int, (axis = .x → m.searchX ≠ .seeking a) ∧ (axis = .y → m.searchY ≠ .seeking a)) →
      exec (.homeNotFound axis) s = .next s

/-- SUB_MOVE_COMPLETE (R34, R52): a busy generator's pulses are all out, N is where they end and an issued head entry is
complete; TRAVERSE_LEG_COMPLETE (R35): the frame stands at the leg's target, and the travel that asked for it goes on: ACTIVATE
and REWIND end in READY with cause ACTIVATED, the latter with c = 0 (R33, R103), JOG in UNREADY (R37), a step of BACK or FWD
moves c by one, the last one, or one a stop was asked in, ending in READY with the cause held and another starting the next leg,
with P moved by the displacement of the ordinal it passes and the leg's target committed from it (R32, R102; that P moves when
the leg starts is log entry 22). A free generator and an absent leg have nothing to complete (log entry 47). The legs of a CLEAR
and of a repair run stand in ClearAndRestart and RepairTakenGoesOutbound. -/
def Obligations.FrameMovesComplete : Prop :=
  ∀ s : State, s.awake →
    (∀ m e rest, s.part.pos.busy = true → s.part.pos.move = some m → s.part.plan.queue = e :: rest → e.issued = true →
      exec .subMoveComplete s =
        .next (s.put
          { s.part with
            pos := { s.part.pos with n := m.goal, busy := false }
            plan := { s.part.plan with queue := { e with complete := true } :: rest } })) ∧
    (s.part.pos.busy = false → exec .subMoveComplete s = .next s) ∧
    (∀ m tr, s.part.pos.move = some m → m.kind = .leg → m.interrupted = false → s.part.ctl.state = .traversing →
      s.part.ctl.travel = some tr →
      ∃ t : State, exec .traverseLegComplete s = .next t ∧ t.part.pos.homed = s.part.pos.homed ∧
        t.part.lib = s.part.lib ∧ t.part.par = s.part.par ∧ t.part.maps = s.part.maps ∧ t.part.arb = s.part.arb ∧
        t.part.heads = s.part.heads ∧ t.part.chain = s.part.chain ∧ t.part.lines = s.part.lines ∧
        (tr.kind = .activate ∨ tr.kind = .rewind →
          t.part.pos.n = m.target ∧ t.part.pos.move = none ∧ t.part.ctl.state = .ready ∧
          t.part.ctl.cause = .activated ∧ t.part.ctl.travel = none ∧ t.part.port.notices.stopped = true ∧
          t.part.ctl.c = (if tr.kind = .rewind then some 0 else s.part.ctl.c) ∧
          t.part.ctl.design = s.part.ctl.design ∧ t.part.ctl.slot = s.part.ctl.slot) ∧
        (tr.kind = .jog →
          t.part.pos.n = m.target ∧ t.part.pos.move = none ∧ t.part.ctl.state = .unready ∧
          t.part.port.notices.stopped = true) ∧
        (∀ o c, tr.target = .ordinal o →
          ((tr.kind = .back ∧ c = s.part.cur - 1) ∨ (tr.kind = .fwd ∧ c = s.part.cur + 1)) →
          (c = o ∨ tr.stopAsked = true →
            t.part.pos.n = m.target ∧ t.part.pos.move = none ∧ t.part.ctl.state = .ready ∧ t.part.ctl.c = some c ∧
            t.part.ctl.cause = tr.cause.getD s.part.ctl.cause ∧ t.part.port.notices.stopped = true) ∧
          (c ≠ o → tr.stopAsked = false →
            t.part.ctl.state = .traversing ∧ t.part.ctl.c = some c ∧ t.part.pos.n = m.target ∧
            t.part.ctl.travel = some tr ∧
            ∀ (pl : Placement) (sv : Served) (v : Vec), s.part.pos.placement = some pl →
              s.part.serve (if tr.kind = .fwd then c else c - 1) = some sv →
              v = (if tr.kind = .fwd then (s.part.pos.p.getD ⟨0, 0⟩).add (pl.ideal s.part.par sv.d)
                else (s.part.pos.p.getD ⟨0, 0⟩).sub (pl.ideal s.part.par sv.d)) →
              t.part.pos.p = some v ∧
              t.part.pos.move = some
                { kind := .leg, start := m.target, target := pl.committed v, goal := pl.committed v
                  interrupted := false, stopping := false, rate := s.part.par.fTrav, searchX := .found
                  searchY := .found }))) ∧
    (∀ m, s.part.pos.move = some m → m.kind ≠ .leg ∨ m.interrupted = true → exec .traverseLegComplete s = .next s) ∧
    (s.part.pos.move = none → exec .traverseLegComplete s = .next s)

/-! ## The motion planner -/

/-- The split of an ordinal (R47, R48). With v the lowest speed of its kind, the capacity of an axis is floor(45 F W / 1,024 v), at
least 26 steps; the sub-move count is the least that keeps every sub-move within the capacities; the sub-moves of an axis sum to
its whole count, each within one step of its even share and within the capacity; and none of them has a limit speed below v. -/
def Obligations.SubMovesShareTheWholeMove : Prop :=
  ∀ (q : Params) (kind : StitchKind) (m : Vec) (v capX capY n : Nat),
    q.inRange → v = (if kind = .jump then q.vJump else q.vMin) →
    capX = 45 * q.fX * (1024 - q.wStart + q.wEnd) / (1024 * v) →
    capY = 45 * q.fY * (1024 - q.wStart + q.wEnd) / (1024 * v) → n = q.subMoves kind m →
    26 ≤ capX ∧ 26 ≤ capY ∧ 1 ≤ n ∧ (n = 1 ↔ m.x.natAbs ≤ capX ∧ m.y.natAbs ≤ capY) ∧
      m.x.natAbs ≤ n * capX ∧ m.y.natAbs ≤ n * capY ∧
      (∀ k, 1 ≤ k → m.x.natAbs ≤ k * capX → m.y.natAbs ≤ k * capY → n ≤ k) ∧
      ((List.range n).map fun i => subSteps m.x n (i + 1)).sum = m.x ∧
      ((List.range n).map fun i => subSteps m.y n (i + 1)).sum = m.y ∧
      ∀ i, 1 ≤ i → i ≤ n →
        (subSteps m.x n i).natAbs ≤ capX ∧ (subSteps m.y n i).natAbs ≤ capY ∧
        (n * subSteps m.x n i - m.x).natAbs < n ∧ (n * subSteps m.y n i - m.y).natAbs < n ∧
        ∀ cap, v ≤ q.capSpeed cap → v ≤ q.limit ⟨subSteps m.x n i, subSteps m.y n i⟩ cap

/-- The fill (R43 to R45, R48, R55, R56, R199) and look-ahead (R49). While the controller sews, the queue holds fewer than 16
entries and none carries stop-after, the fill appends the entry at the fill point: the ordinal's step counts and sub-move count,
taken on reaching it, a sub-move DOWN only as the last of a NORMAL ordinal, the trim entry with no steps where R44 asks for one,
the limit speed of its own steps under its kind cap. The last entry of an ordinal with a stop, held there or placed by its
boundary, carries stop-after under v_stop, and the record is PLACED. Otherwise the fill does nothing, and a filled queue takes no
more. Look-ahead: every entry keeps all but its allowed speed; the tail entry is allowed the lesser of its limit and v_stop with
stop-after, v_min + slew without; each entry before it the lesser of its limit and the allowance of the next plus slew. A full
queue without a stop, its limits at v_max or above, allows v_max at its head. -/
def Obligations.LookAheadBindsTheQueue : Prop :=
  (∀ (p : Part) (f : FillPoint) (sv : Served) (a b m : Vec) (acc : Option Vec) (count last : Nat)
      (held met stop : Option (Bool × StopOrigin)) (trimmed : Prop) (share : Nat → Nat → Nat) (e : Entry),
    (p.ctl.state = .starting ∨ p.ctl.state = .running ∨ p.ctl.state = .stopping ∨
      (p.ctl.state = .repairing ∧ ∃ r, p.ctl.repair = some r ∧ r.phase = .sewing)) →
    p.plan.queue.length < 16 → (∀ d ∈ p.plan.queue, d.stopAfter = false) → p.plan.fill = some f →
    p.serve f.ordinal = some sv →
    a = p.pos.plan.getD (p.pos.p.getD ⟨0, 0⟩) → b = a.add (p.idealStep sv.d) →
    ((f.split = some (m, count) ∧ acc = p.pos.plan) ∨
      (f.split = none ∧ m = (p.committed b).sub (p.committed a) ∧ acc = some b ∧
        count = if sv.kind = .trim then 1 else p.par.subMoves sv.kind m)) →
    held = (match p.plan.stop.held with
      | some (o, g) => if o = sv.ordinal then some g else none
      | none => none) →
    met = (if sv.designEnd then some (true, .designEnd)
      else if sv.blockEnd then some (true, .colour)
      else match sv.runEnd with
        | some (true, t) => if p.ctl.state = .repairing then none else some (t, .halt)
        | _ => none) →
    stop = (match held, met with
      | none, g => g
      | some g, none => some g
      | some (t, g), some (t', g') => some (t || t', if g' = .colour ∨ g' = .designEnd then g' else g)) →
    (trimmed ↔ sv.kind ≠ .trim ∧ ((∃ h, sv.runEnd = some (h, true)) ∨ sv.blockEnd = true ∨ sv.designEnd = true ∨
      ∃ g, held = some (true, g))) →
    ((trimmed ∧ last = count + 1) ∨ (¬trimmed ∧ last = count)) →
    (∀ w n, share w n = 45 * w * (1024 - p.par.wStart + p.par.wEnd) / (1024 * n)) →
    e.ordinal = sv.ordinal → e.index = f.index → e.count = count →
    (count < f.index → e.steps = ⟨0, 0⟩ ∧ e.down = false ∧ e.trim = true ∧ e.cap = .vStop) →
    (f.index ≤ count → e.steps = ⟨subSteps m.x count f.index, subSteps m.y count f.index⟩ ∧
      (e.down = true ↔ sv.kind = .normal ∧ f.index = count) ∧ (e.trim = true ↔ sv.kind = .trim) ∧
      e.cap = (if e.stopAfter then .vStop
        else match sv.kind with
          | .normal => .vMax
          | .jump => .vJump
          | .trim => .vStop)) →
    (∀ v, v = (match e.cap with
        | .vMax => p.par.vMax
        | .vJump => p.par.vJump
        | .vStop => p.par.vStop) →
      e.vLim = min (min (if e.steps.x = 0 then v else share p.par.fX e.steps.x.natAbs)
        (if e.steps.y = 0 then v else share p.par.fY e.steps.y.natAbs)) v) →
    e.vAllow = e.vLim → e.issued = false → e.complete = false →
    (e.stopAfter = true ↔ last ≤ f.index ∧ stop ≠ none) →
    p.fillOne =
      { p with
        pos := { p.pos with plan := acc }
        plan := { p.plan with
          queue := p.plan.queue ++ [e]
          fill := if f.index < last then some ⟨f.ordinal, f.index + 1, some (m, count)⟩ else some ⟨f.ordinal + 1, 1, none⟩
          stop := match stop with
            | some (t, g) => if f.index < last then p.plan.stop else .placed sv.ordinal t g
            | none => p.plan.stop } }) ∧
  (∀ p : Part,
    (p.ctl.state ≠ .starting ∧ p.ctl.state ≠ .running ∧ p.ctl.state ≠ .stopping ∧ p.ctl.state ≠ .repairing ∨
        16 ≤ p.plan.queue.length ∨ (∃ d ∈ p.plan.queue, d.stopAfter = true) ∨
        (∀ f, p.plan.fill = some f → p.serve f.ordinal = none) → p.fillOne = p) ∧
      p.fillQueue.fillOne = p.fillQueue ∧ ∃ k, p.fillQueue = iterate Part.fillOne k p) ∧
  ∀ (q : Params) (l : List Entry),
    (lookAhead q l).length = l.length ∧
    (∀ (i : Nat) (e f : Entry), l[i]? = some e → (lookAhead q l)[i]? = some f → { f with vAllow := e.vAllow } = e) ∧
    (∀ (i : Nat) (e f : Entry), l[i]? = some e → (lookAhead q l)[i]? = some f → i + 1 = l.length →
      f.vAllow = min e.vLim (if e.stopAfter then q.vStop else q.vMin + q.slew)) ∧
    (∀ (i : Nat) (e f g : Entry), l[i]? = some e → (lookAhead q l)[i]? = some f → (lookAhead q l)[i + 1]? = some g →
      f.vAllow = min e.vLim (g.vAllow + q.slew)) ∧
    (q.inRange → l.length = 16 → (∀ e ∈ l, q.vMax ≤ e.vLim ∧ e.stopAfter = false) →
      ∀ f, (lookAhead q l).head? = some f → q.vMax ≤ f.vAllow)

/-- The speed demand after a commit (R50, R51, R59): the lesser of the head entry's allowance, the previous demand plus slew and v_set;
while slowing to a controlled stop, the lesser of the allowance, v_set and the previous demand less stop_slew or v_stop. v_set
follows the requested speed, downward by at most slew a revolution. The drive is handed the same figure, an empty queue
demands 0, and outside a controlled stop the demand changes by at most slew when the look-ahead keeps its law. While slowing, a head
entry that ends its ordinal is made the last revolution when the demand is at or below v_stop (R60): it takes stop-after, v_stop as
its cap and limit, the entries behind it go and the stop is PLACED with the trim and origin of a stop held at that ordinal, else with
origin COUNT; otherwise the queue and the stop stay. That a commit ends with this demand is stated in
CommitFrameRecordsWhatWasSent. -/
def Obligations.SpeedDemandFollowsTheQueue : Prop :=
  ∀ (p : Part) (e : Entry) (rest : List Entry) (vSet d : Nat),
    p.plan.queue = e :: rest →
    vSet = (if p.ctl.state = .stopping ∨ p.plan.vSet ≤ p.plan.requested then p.plan.requested
      else max p.plan.requested (p.plan.demand - p.par.slew)) →
    d = (if p.slowing then min (min e.vAllow vSet) (max p.par.vStop (p.plan.demand - p.par.stopSlew))
      else min (min e.vAllow (p.plan.demand + p.par.slew)) vSet) →
    p.nextDemand.plan.demand = d ∧ p.nextDemand.shaft.demand = d ∧ p.nextDemand.plan.vSet = vSet ∧
      p.nextDemand.plan.prev = some p.plan.demand ∧ d ≤ e.vAllow ∧ d ≤ vSet ∧
      (p.slowing = false → d ≤ p.plan.demand + p.par.slew) ∧
      (p.slowing = false → p.plan.demand ≤ e.vAllow + p.par.slew → p.plan.demand ≤ p.plan.vSet → p.ctl.state ≠ .stopping →
        p.plan.demand ≤ d + p.par.slew) ∧
      (p.slowing = false → p.nextDemand.plan.queue = p.plan.queue) ∧
      (p.slowing = true → d ≤ p.par.vStop → p.isLastEntry e = true →
        p.nextDemand.plan.queue = [{ e with stopAfter := true, cap := .vStop, vLim := min e.vLim p.par.vStop }] ∧
          ∀ trim origin,
            (p.plan.stop.held = some (e.ordinal, trim, origin) ∨
              ((∀ t g, p.plan.stop.held ≠ some (e.ordinal, t, g)) ∧ trim = false ∧ origin = .count)) →
            p.nextDemand.plan.stop = .placed e.ordinal trim origin) ∧
      (p.slowing = false ∨ p.par.vStop < d ∨ p.isLastEntry e = false →
        p.nextDemand.plan.queue = p.plan.queue ∧ p.nextDemand.plan.stop = p.plan.stop) ∧
      (({ p with plan := { p.plan with queue := [] } } : Part).nextDemand.plan.demand = 0) ∧
      p.firstDemand.plan.demand = min e.vAllow p.par.vMin

/-- A late move (R53, R77): with the head entry issued but not complete at the commit angle, the commit frame goes out with the
hold flag, every head is recorded HELD and its span marked held, the entry stays, nothing is committed, no planned stop changes,
and the demand falls by slew, in a controlled stop by stop_slew, not below 100. -/
def Obligations.LateMoveHoldsEveryNeedle : Prop :=
  ∀ (p : Part) (e : Entry) (rest : List Entry), p.complete → p.plan.queue = e :: rest → e.issued = true →
    e.complete = false →
    p.commitAngle.needlesHeld ∧ (∀ h, isHead h = true → (p.commitAngle.link h).recorded.held = true) ∧
      p.commitAngle.chain.out = p.chain.out ++ [.hold p.chain.seq .commit true] ∧
      p.commitAngle.ctl = p.ctl ∧ p.commitAngle.pos = p.pos ∧ p.commitAngle.plan.queue = p.plan.queue ∧
      p.commitAngle.plan.stop = p.plan.stop ∧ p.commitAngle.cases = p.cases ∧ p.commitAngle.heads = p.heads ∧
      p.commitAngle.arb = p.arb ∧ p.commitAngle.maps = p.maps ∧ p.commitAngle.lib = p.lib ∧ p.commitAngle.par = p.par ∧
      p.commitAngle.plan.demand = max 100 (p.plan.demand - if p.slowing then p.par.stopSlew else p.par.slew) ∧
      p.commitAngle.shaft.demand = p.commitAngle.plan.demand

/-! ## The head chain -/

/-- The law of needle DOWN (R76): a head is commanded DOWN only for a head entry whose mode is DOWN, not while LOCKED, when the head is
ACTIVE, its selector rests at its latched sewing needle, that needle's thread is READY and, in a repair run, it is the repaired
head; the command then carries the entry's ordinal. A head commanded HELD has no sample orders. The trim flag is set only for a head
entry whose trim flag is set, not while LOCKED, when the head is ACTIVE, has a latched sewing needle and, in a repair run, is the
repaired head. The command carries the ordinal of the head entry, and with an empty queue or while LOCKED (R82) no tag. -/
def Obligations.NeedleDownLaw : Prop :=
  ∀ (p : Part) (h : Nat),
    ((p.composeCommand h).down = true ↔
      p.ctl.state ≠ .locked ∧ (p.head h).state = .active ∧
        (∃ e rest, p.plan.queue = e :: rest ∧ e.down = true ∧ (p.composeCommand h).ordinal = some e.ordinal) ∧
        (∃ n, (p.selector h).latched = some n ∧ (p.selector h).state = .atNeedle n ∧ (p.thread h n).state = .ready) ∧
        ∀ r, p.ctl.state = .repairing → p.ctl.repair = some r → r.head = h) ∧
    ((p.composeCommand h).down = false → (p.composeCommand h).orders = []) ∧
    ((p.composeCommand h).trim = true ↔
      p.ctl.state ≠ .locked ∧ (p.head h).state = .active ∧
        (∃ e rest, p.plan.queue = e :: rest ∧ e.trim = true ∧ (p.composeCommand h).ordinal = some e.ordinal) ∧
        (∃ n, (p.selector h).latched = some n) ∧
        ∀ r, p.ctl.state = .repairing → p.ctl.repair = some r → r.head = h) ∧
    (∀ e rest, p.ctl.state ≠ .locked → p.plan.queue = e :: rest → (p.composeCommand h).ordinal = some e.ordinal) ∧
    (p.ctl.state = .locked ∨ p.plan.queue = [] → p.composeCommand h = ⟨none, false, false, []⟩)

/-- The commit frame's record (R77): for every head the tag of the command sent since the previous commit frame, DOWN only if DOWN
was sent and the hold flag is clear, none and HELD without a command; the command is used up, the frame is on the chain, a sewing
exchange in progress ends there, and no head's other record changes. The commit that follows for a head entry issued and complete
(R52, R58, R92, R98, R159, R199): the frame's hold flag is clear; the last entry of an ordinal advances P, c and STARTING, keeps a
NORMAL length and tells the case table, in a repair run the progress of its case; another entry does not; with stop-after the
controller settles over an empty queue, else the entry leaves the queue, the fill adds behind it by LookAheadBindsTheQueue,
look-ahead binds the whole and the new head entry gets its demand by SpeedDemandFollowsTheQueue; while slowing, a demand at or below
v_stop on the last entry of its ordinal leaves that entry alone, as the last revolution (R50, R59, R60). With an empty queue, or a
head entry not issued, the frame goes out with the hold flag and nothing is committed (R52). A bobbin counted is drawn down by the
length of a NORMAL ordinal on every head that sewed it, and declared at 0
(R163). What the case table makes of it is stated for one case (R190 to R192) and for one restore mark (R193). That an ordinal
counts as sewn DOWN by its last sub-move, and only if it is NORMAL, for the progress of a repair and for a mark, is the model's
choice (log entry 18), and so is the CASE notice of a case made by a mark (log entry 34). -/
def Obligations.CommitFrameRecordsWhatWasSent : Prop :=
  (∀ (p : Part) (hold late : Bool), p.complete →
    (∀ h, isHead h = true →
      ((p.commitFrame hold late).link h).sent = none ∧
      (∀ c, (p.link h).sent = some c →
        ((p.commitFrame hold late).link h).recorded.ordinal = c.ordinal ∧
        ((p.commitFrame hold late).link h).recorded.down = (c.down && !hold) ∧
        ((p.commitFrame hold late).link h).recorded.orders = c.orders) ∧
      ((p.link h).sent = none →
        ((p.commitFrame hold late).link h).recorded.ordinal = none ∧
        ((p.commitFrame hold late).link h).recorded.down = false) ∧
      ((p.commitFrame hold late).link h).missing = (p.link h).missing ∧
      ((p.commitFrame hold late).link h).outcome = (p.link h).outcome ∧
      ((p.commitFrame hold late).link h).expected = (p.link h).expected ∧
      ((p.commitFrame hold late).link h).opened = (p.link h).opened ∧
      ((p.commitFrame hold late).link h).button = (p.link h).button) ∧
    (p.commitFrame hold late).chain.out = p.chain.out ++ [.hold p.chain.seq .commit hold] ∧
    (∀ x, p.chain.exchange = some x →
      (p.commitFrame hold late).chain.exchange = if x.kind = .sewing then none else some x) ∧
    (p.commitFrame hold late).heads = p.heads ∧ (p.commitFrame hold late).arb = p.arb ∧
    (p.commitFrame hold late).ctl = p.ctl ∧ (p.commitFrame hold late).pos = p.pos ∧
    (p.commitFrame hold late).plan = p.plan ∧ (p.commitFrame hold late).cases = p.cases) ∧
  (∀ (p q : Part) (e : Entry) (rest : List Entry) (sv : Served), p.complete → q = p.commitAngle → p.plan.queue = e :: rest →
    e.issued = true → e.complete = true → p.ctl.state ≠ .locked → p.serve e.ordinal = some sv →
    (∀ h, isHead h = true → (p.head h).bobbin = none) → (∀ h, p.markOf h ≠ some e.ordinal) →
    q.chain = (p.commitFrame false false).chain ∧ q.lib = p.lib ∧ q.par = p.par ∧ q.maps = p.maps ∧ q.arb = p.arb ∧
      q.heads = p.heads ∧ q.mon.threads = p.mon.threads ∧ q.ctl.design = p.ctl.design ∧ q.ctl.slot = p.ctl.slot ∧
      q.ctl.pending = p.ctl.pending ∧
      (e.index ≠ e.count →
        q.ctl.c = p.ctl.c ∧ q.pos.p = p.pos.p ∧ q.pos.n = p.pos.n ∧ q.pos.move = p.pos.move ∧
        q.mon.lengths = p.mon.lengths ∧ q.cases.records = p.cases.records) ∧
      (e.index = e.count →
        ∀ v : Vec, v = (p.pos.p.getD ⟨0, 0⟩).add (p.idealStep sv.d) →
        q.pos.p = some v ∧ q.pos.n = p.committed v ∧ q.pos.move = none ∧ q.pos.busy = false ∧
        (sv.kind ≠ .normal → q.mon.lengths = p.mon.lengths) ∧
        (sv.kind = .normal → q.mon.lengths.getLast? = some (e.ordinal, p.threadLength sv.d) ∧
          (p.mon.lengths.length ≤ 3 → q.mon.lengths.length ≤ 3)) ∧
        (p.ctl.state ≠ .repairing → q.ctl.c = some (e.ordinal + 1) ∧ ∀ m ∈ q.cases.marks, m = none) ∧
        ∀ r x, p.ctl.state = .repairing → p.ctl.repair = some r → r.caseNo < 40 → p.caseAt r.caseNo = some x →
          q.ctl.c = p.ctl.c ∧
          q.caseAt r.caseNo =
            some (if x.progress = some e.ordinal ∧
                (sv.kind ≠ .normal ∨ ∃ w, (p.link r.head).sent = some w ∧ w.down = true ∧ isHead r.head = true)
              then { x with progress := some (e.ordinal + 1) } else x)) ∧
      (e.stopAfter = true →
        q.plan.queue = [] ∧ q.plan.fill = none ∧ q.plan.stop = .none ∧ q.plan.demand = 0 ∧ q.shaft.demand = 0 ∧
        (p.shaft.drive = .turning → q.shaft.drive = .positioning ∧ q.shaft.posSince = some p.now) ∧
        (p.ctl.state ≠ .repairing → q.ctl.state = .stopping ∧ q.ctl.phase = some .settling ∧
          q.ctl.origin = some ((p.plan.stop.held.map fun g => g.2.2).getD .count)) ∧
        ∀ r, p.ctl.state = .repairing → p.ctl.repair = some r → r.phase = .sewing →
          q.ctl.state = .repairing ∧ q.ctl.repair = some { r with stopReached := true }) ∧
      (e.stopAfter = false →
        q.ctl.state = (if p.ctl.state = .starting ∧ e.index = e.count then .running else p.ctl.state) ∧
        q.ctl.phase = p.ctl.phase ∧ q.shaft.drive = p.shaft.drive ∧ q.shaft.demand = q.plan.demand ∧
        (∃ r y : Part,
          r.plan = { p.plan with queue := rest } ∧ r.pos.plan = p.pos.plan ∧ r.ctl = q.ctl ∧ r.lib = q.lib ∧ r.par = q.par ∧
          { r.pos with plan := q.pos.plan } = q.pos ∧ y = r.fillQueue.runLookAhead ∧ q.plan = y.nextDemand.plan ∧
          q.pos.plan = y.pos.plan ∧ (y.plan.queue = [] → q.plan.demand = 0) ∧
          ∀ d ds, y.plan.queue = d :: ds →
            (p.slowing = false →
              q.plan.demand = min (min d.vAllow (p.plan.demand + p.par.slew)) q.plan.vSet ∧ q.plan.queue = y.plan.queue) ∧
            (p.slowing = true →
              q.plan.demand = min (min d.vAllow q.plan.vSet) (max p.par.vStop (p.plan.demand - p.par.stopSlew)) ∧
              (q.plan.demand ≤ p.par.vStop → y.isLastEntry d = true →
                q.plan.queue = [{ d with stopAfter := true, cap := .vStop, vLim := min d.vLim p.par.vStop }] ∧
                ∀ trim origin,
                  (y.plan.stop.held = some (d.ordinal, trim, origin) ∨
                    ((∀ t g, y.plan.stop.held ≠ some (d.ordinal, t, g)) ∧ trim = false ∧ origin = .count)) →
                  q.plan.stop = .placed d.ordinal trim origin) ∧
              (p.par.vStop < q.plan.demand ∨ y.isLastEntry d = false →
                q.plan.queue = y.plan.queue ∧ q.plan.stop = y.plan.stop))) ∧
        (p.slowing = false →
          ∃ r : Part,
            r.plan.queue = rest ∧ r.plan.fill = p.plan.fill ∧ r.plan.stop = p.plan.stop ∧ r.pos.plan = p.pos.plan ∧
            r.ctl = q.ctl ∧ r.lib = q.lib ∧ r.par = q.par ∧ { r.pos with plan := q.pos.plan } = q.pos ∧
            q.plan.queue = lookAhead q.par r.fillQueue.plan.queue ∧ q.plan.fill = r.fillQueue.plan.fill ∧
            q.plan.stop = r.fillQueue.plan.stop ∧ q.pos.plan = r.fillQueue.pos.plan))) ∧
  (∀ p : Part, (p.plan.queue = [] ∨ ∃ e rest, p.plan.queue = e :: rest ∧ e.issued = false) →
    p.commitAngle = p.commitFrame true false) ∧
  (∀ (p q : Part) (e : Entry) (rest : List Entry) (sv : Served) (h : Nat) (b : Option Nat) (len : Nat), p.complete →
    q = p.commitAngle → p.plan.queue = e :: rest → e.issued = true → e.complete = true → p.ctl.state ≠ .locked →
    p.serve e.ordinal = some sv → isHead h = true → (p.head h).bobbin = b → len = p.threadLength sv.d →
    ∀ drawn : Prop,
    (drawn ↔ e.index = e.count ∧ sv.kind = .normal ∧ ∃ w, (p.link h).sent = some w ∧ w.down = true) →
    (¬drawn → (q.head h).bobbin = b) ∧
      (drawn → (q.head h).bobbin = b.map (· - len) ∧
        ∀ k, b = some k → 0 < k → k ≤ len → (q.head h).latches.bobbin = true ∧ q.port.notices.fault = true)) ∧
  (∀ (p q : Part) (e : Entry) (rest : List Entry) (sv : Served) (b : Block) (k : Nat) (r x : Case) (down ends : Prop)
      (last : Nat), p.complete → q = p.commitAngle →
    p.plan.queue = e :: rest → e.issued = true → e.complete = true → p.ctl.state ≠ .locked → p.ctl.state ≠ .repairing →
    e.index = e.count → p.serve e.ordinal = some sv → (p.activeDesign.bind fun y => y.blockOf e.ordinal) = some b →
    (∀ h, isHead h = true → (p.head h).bobbin = none) → (∀ h, p.markOf h ≠ some e.ordinal) →
    k < 40 → p.caseAt k = some r → (∀ j, j ≠ k → p.caseAt j = none) → p.ctl.design = some r.design →
    isHead r.head = true → (down ↔ ∃ w, (p.link r.head).sent = some w ∧ w.down = true) →
    (ends ↔ sv.blockEnd = true ∨ sv.designEnd = true) → last = max e.ordinal (x.floor.getD 0) →
    (r.state = .isOpen → r.last = none →
      ((e.ordinal = r.first ∧ down ∧ x = { r with first := e.ordinal + 1 }) ∨
        ((r.first < e.ordinal ∨ (e.ordinal = r.first ∧ ¬down)) ∧ x = r) ∨
        (e.ordinal < r.first ∧ x = { r with first := e.ordinal, slot := b.slot })) →
      (¬ends → q.caseAt k = some x) ∧
      (ends → x.first ≤ last →
        q.caseAt k = some { x with state := .closed, last := some last, floor := none } ∧ q.port.notices.case = true) ∧
      (ends → last < x.first → q.caseAt k = none ∧ q.port.notices.case = true)) ∧
    (r.state = .closed → r.first = e.ordinal → down → ∀ l, r.last = some l →
      (l ≤ e.ordinal → q.caseAt k = none ∧ q.port.notices.case = true) ∧
      (e.ordinal < l → q.caseAt k = some { r with first := e.ordinal + 1 })) ∧
    (r.state = .mended ∨ (r.state = .closed ∧ (r.first ≠ e.ordinal ∨ ¬down)) → q.caseAt k = some r) ∧
    ∀ j, j ≠ k → q.caseAt j = none) ∧
  ∀ (p q : Part) (e : Entry) (rest : List Entry) (sv : Served) (b : Block) (d h : Nat), p.complete →
    q = p.commitAngle → p.plan.queue = e :: rest → e.issued = true → e.complete = true → p.ctl.state ≠ .locked →
    p.ctl.state ≠ .repairing → e.index = e.count → p.serve e.ordinal = some sv →
    (p.activeDesign.bind fun y => y.blockOf e.ordinal) = some b → p.ctl.design = some d →
    (∀ j, isHead j = true → (p.head j).bobbin = none) → isHead h = true →
    (∀ j, p.markOf j = some e.ordinal ↔ j = h) → (∀ j, p.caseAt j = none) →
    (sv.kind = .normal ∧ (∀ w, (p.link h).sent = some w → w.down = false) →
      q.caseAt 0 = some
        { head := h, design := d, slot := b.slot, first := e.ordinal, last := some e.ordinal, floor := none
          state := .closed, progress := none } ∧
      q.port.notices.case = true ∧ ∀ j, j ≠ 0 → q.caseAt j = none) ∧
    (sv.kind ≠ .normal ∨ (∃ w, (p.link h).sent = some w ∧ w.down = true) → ∀ j, q.caseAt j = none)

/-- HEAD_REPORT, REPLY_SLOT_END and IDLE_EXCHANGE (R74, R75, R79 to R81, R158, R167, R179, R217). An idle exchange starts when none
runs and the shaft stands or the angle is unsynchronized, with the next sequence number and a poll; nothing happens otherwise, nor
at a report or a slot's end without an exchange (log entry 29); it comes 20 ms after the last one (log entry 3), and the commands
of an exchange go out in the step of its last slot (log entry 13). In an exchange of either kind a slot without a valid report
counts one more missing report, LOST being raised at lost_count and not again above it; a valid report at the detent where the
selector rests sets the count to 0. The next slot follows; after the last one a sewing exchange gives every fitted head its needle
command. In a sewing exchange a report is valid with the tag and mode expected only, and the span is passed over with its reason
(the order of the reasons is log entry 20, the needle noted until then log entry 44), the counts of the head left alone, or
evaluated: the tension test counts samples out of the thread's band, the motion test low stitches, and each declares its fault at
its count; of several samples those of CHECK are counted in the order of their orders, SETTLE and missing ones passed over, and
every one is kept with its verdict (R157, R160, R167). A button press in an exchange of either kind parks or restores the head, once
per press, stated for a sewing exchange whose span declares no fault. -/
def Obligations.IdleExchangeCountsReports : Prop :=
  ∀ s : State, s.awake →
    (s.part.chain.exchange = none → (s.part.shaft.standing = true ∨ s.part.shaft.synced = false) →
      ∃ t : State, exec .idleExchange s = .next t ∧ t.part.chain.seq = (s.part.chain.seq + 1) % 256 ∧
        t.part.chain.exchange = some ⟨.idle, 1, s.part.par.headsFitted⟩ ∧
        t.part.chain.out =
          s.part.chain.out ++ [.poll ((s.part.chain.seq + 1) % 256) .idle s.part.par.headsFitted] ∧
        t.part.chain.links = s.part.chain.links ∧ s.part.chain.lastStart + 20000 ≤ t.part.now ∧
        t.part.chain.lastStart = t.part.now ∧
        { t.part with chain := s.part.chain, now := s.part.now } = s.part) ∧
    (∀ x, s.part.chain.exchange = some x ∨ (s.part.shaft.standing = false ∧ s.part.shaft.synced = true) →
      exec .idleExchange s = .next s) ∧
    (s.part.chain.exchange = none → (∀ f, exec (.headReport f) s = .next s) ∧
      ∀ b, exec (.replySlotEnd b) s = .next s) ∧
    (∀ (x : Exchange) (h : Nat), s.part.complete → s.part.chain.exchange = some x → x.kind = .idle → x.slot = h →
      isHead h = true → h < x.fitted → (s.part.head h).state ≠ .disabled →
      (∀ o, (s.part.link h).missing + 1 < s.part.par.lostCount →
        ∃ t : State,
          t = s.put
            { s.part.setLink h { s.part.link h with missing := (s.part.link h).missing + 1, outcome := some o } with
              chain :=
                { (s.part.setLink h
                    { s.part.link h with missing := (s.part.link h).missing + 1, outcome := some o }).chain with
                  exchange := some { x with slot := h + 1 } } } ∧
          (o = .missing → exec (.replySlotEnd false) s = .next t) ∧
          (o = .mismatched → exec (.replySlotEnd true) s = .next t ∧
            ∀ f, (∀ r, parseReport f = some r → r.seq ≠ s.part.chain.seq) → exec (.headReport f) s = .next t)) ∧
      ∀ f r n, parseReport f = some r → r.seq = s.part.chain.seq → r.detent = some n → r.moving = false →
        r.button = false → (s.part.selector h).state = .atNeedle n → (s.part.selector h).halt = false →
        ∃ t : State, exec (.headReport f) s = .next t ∧
          t.part.link h = { s.part.link h with missing := 0, outcome := some .valid, button := some false } ∧
          t.part.selector h = { s.part.selector h with reported := some ⟨some n, false⟩ } ∧
          t.part.chain.exchange = some { x with slot := h + 1 } ∧
          (∀ k, k ≠ h → t.part.link k = s.part.link k ∧ t.part.selector k = s.part.selector k) ∧
          t.part.heads = s.part.heads ∧ t.part.ctl = s.part.ctl ∧ t.part.mon = s.part.mon ∧
          t.part.cases = s.part.cases ∧ t.part.port = s.part.port ∧ t.part.plan = s.part.plan ∧ t.part.pos = s.part.pos) ∧
    ∀ (x : Exchange) (h : Nat) (l : HeadLink), s.part.complete → s.part.chain.exchange = some x → x.slot = h →
      isHead h = true → l = s.part.link h →
      ∀ valid : Report → Prop,
        (∀ r, valid r ↔ r.seq = s.part.chain.seq ∧ (x.kind = .sewing →
          r.tag = l.expected.ordinal.map (· % 256) ∧ r.down = l.expected.down)) →
      (∀ (c : Instr) (o : ReportOutcome),
        ((o = .missing ∧ c = .replySlotEnd false) ∨ (o = .mismatched ∧ (c = .replySlotEnd true ∨
          ∃ f, c = .headReport f ∧ ∀ r, parseReport f = some r → ¬valid r))) →
        (s.part.head h).state ≠ .disabled →
        (l.missing + 1 < s.part.par.lostCount ∨ s.part.par.lostCount ≤ l.missing →
          ∃ t : State, exec c s = .next t ∧ (t.part.link h).outcome = some o ∧
            (t.part.link h).missing = (if l.missing < s.part.par.lostCount then l.missing + 1 else l.missing) ∧
            (x.kind = .sewing →
              t.part.sensing h =
                { s.part.sensing h with
                  lastSpan := some .noReport
                  noted := if l.expected.down then
                      (s.part.sensing h).noted.filter fun e => decide (some e.1 ≠ l.expected.ordinal)
                    else (s.part.sensing h).noted }) ∧
            (x.kind = .idle → t.part.mon = s.part.mon) ∧
            (∀ k, k ≠ h → t.part.sensing k = s.part.sensing k) ∧ t.part.heads = s.part.heads ∧ t.part.ctl = s.part.ctl ∧
            t.part.arb = s.part.arb ∧ t.part.cases = s.part.cases ∧ t.part.port = s.part.port ∧
            t.part.plan = s.part.plan ∧ t.part.pos = s.part.pos ∧
            (h < x.fitted → t.part.chain.exchange = some { x with slot := h + 1 } ∧
              t.part.link h = { l with missing := (t.part.link h).missing, outcome := some o } ∧
              ∀ k, k ≠ h → t.part.link k = s.part.link k) ∧
            (h = x.fitted → t.part.chain.exchange = none ∧
              (x.kind = .sewing → ∀ k, 1 ≤ k → k ≤ x.fitted →
                (t.part.link k).sent = some (t.part.composeCommand k) ∧
                (t.part.link k).commanded = t.part.composeCommand k) ∧
              (x.kind = .idle → ∀ k, (t.part.link k).sent = (s.part.link k).sent))) ∧
        (l.missing + 1 = s.part.par.lostCount → s.part.ctl.state ≠ .repairing → h < x.fitted →
          ∃ t : State, exec c s = .next t ∧ (t.part.link h).missing = s.part.par.lostCount ∧
            (t.part.head h).latches.lost = true ∧ t.part.port.notices.fault = true ∧
            (∀ k, 1 ≤ k → k ≠ h → s.part.ctl.state ≠ .changing → t.part.head k = s.part.head k))) ∧
      ∀ f r n, parseReport f = some r → valid r → r.detent = some n → r.moving = false →
        (s.part.selector h).state = .atNeedle n → (s.part.selector h).halt = false → h < x.fitted →
        (x.kind = .sewing → r.button = false →
          ∀ (g : Sensing), g = s.part.sensing h →
          ∀ (noted : List (Nat × Nat)) (tail : Sensing → Prop),
            noted = (if l.expected.down then g.noted.filter fun e => decide (some e.1 ≠ l.expected.ordinal) else g.noted) →
            (∀ y, tail y ↔ ∃ t : State, exec (.headReport f) s = .next t ∧ t.part.sensing h = y ∧
              t.part.link h = { l with missing := 0, outcome := some .valid, button := some false } ∧
              t.part.chain.exchange = some { x with slot := h + 1 } ∧ t.part.heads = s.part.heads ∧
              t.part.ctl = s.part.ctl ∧ t.part.mon.threads = s.part.mon.threads ∧ t.part.cases = s.part.cases ∧
              t.part.port = s.part.port ∧ ∀ k, k ≠ h → t.part.link k = s.part.link k ∧
                t.part.sensing k = s.part.sensing k) →
          (l.expected.held = true → tail { g with noted := noted, lastSpan := some .held }) ∧
          (l.expected.held = false → (l.expected.ordinal = none ∨ l.expected.down = false ∨
              ∀ o, l.expected.ordinal = some o → g.spanNeedle o = none) →
            tail { g with noted := noted, lastSpan := some .notSewn }) ∧
          ∀ o m, l.expected.held = false → l.expected.ordinal = some o → l.expected.down = true →
            g.spanNeedle o = some m →
            (s.part.chain.closingVoid = true → tail { g with noted := noted, lastSpan := some .voidSpan }) ∧
            (s.part.chain.closingVoid = false → (s.part.thread h m).state ≠ .ready →
              tail { g with noted := noted, lastSpan := some .notReady }) ∧
            ∀ len e, s.part.chain.closingVoid = false → (s.part.thread h m).state = .ready → l.expected.orders = [] →
              len = s.part.lengthOf o → e = s.part.par.motionBase + len * s.part.par.motionRate / 256 →
              (e * s.part.par.breakRatio ≤ r.pulses * 16 →
                tail { g with
                  noted := noted, lowRun := 0, firstLow := none
                  lastSpan := some (.evaluated o m r.pulses len e false []) }) ∧
              (r.pulses * 16 < e * s.part.par.breakRatio → g.lowRun + 1 < s.part.par.breakCount →
                tail { g with
                  noted := noted, lowRun := g.lowRun + 1
                  firstLow := some (if g.lowRun = 0 then o else g.firstLow.getD o)
                  lastSpan := some (.evaluated o m r.pulses len e true []) })) ∧
        (x.kind = .sewing → r.button = false → l.expected.held = false → s.part.chain.closingVoid = false →
          ∀ (o m len e : Nat) (g : Sensing), l.expected.ordinal = some o → l.expected.down = true →
            g = s.part.sensing h → g.spanNeedle o = some m → (s.part.thread h m).state = .ready →
            len = s.part.lengthOf o → e = s.part.par.motionBase + len * s.part.par.motionRate / 256 →
            ∃ t : State, exec (.headReport f) s = .next t ∧
              (l.expected.orders = [] → r.pulses * 16 < e * s.part.par.breakRatio →
                s.part.par.breakCount ≤ g.lowRun + 1 →
                (t.part.head h).latches.break_ = true ∧
                (t.part.head h).lastBreak = some (if g.lowRun = 0 then o else g.firstLow.getD o) ∧
                (t.part.thread h m).state = .broken ∧ t.part.port.notices.fault = true ∧
                (t.part.sensing h).lowRun = 0 ∧ (t.part.sensing h).firstLow = none ∧
                (t.part.sensing h).lastSpan = some (.evaluated o m r.pulses len e true [])) ∧
              ∀ (order : SampleOrder) (v : Nat) (rest : List (Option Nat)), l.expected.orders = [order] →
                order.use = .check → r.samples = some v :: rest → e * s.part.par.breakRatio ≤ r.pulses * 16 →
                ((s.part.thread h m).low ≤ v ∧ v ≤ (s.part.thread h m).high →
                  (t.part.sensing h).debounce = 0 ∧ (t.part.sensing h).tensionLive = false ∧
                  t.part.heads = s.part.heads) ∧
                (v < (s.part.thread h m).low ∨ (s.part.thread h m).high < v →
                  (g.debounce + 1 < s.part.par.tensionCount →
                    (t.part.sensing h).debounce = g.debounce + 1 ∧
                    (t.part.sensing h).tensionLive = g.tensionLive ∧ t.part.heads = s.part.heads) ∧
                  (s.part.par.tensionCount ≤ g.debounce + 1 →
                    (t.part.sensing h).debounce = 0 ∧ (t.part.sensing h).tensionLive = true ∧
                    (t.part.head h).latches.tension = true ∧ t.part.port.notices.fault = true))) ∧
        (∀ (o m len e : Nat) (g : Sensing) (pairs : List (SampleUse × Option Nat))
            (run : Nat → List (SampleUse × Option Nat) → Nat × Bool),
          x.kind = .sewing → r.button = false → l.expected.held = false → s.part.chain.closingVoid = false →
          l.expected.ordinal = some o → l.expected.down = true → g = s.part.sensing h → g.spanNeedle o = some m →
          (s.part.thread h m).state = .ready → len = s.part.lengthOf o →
          e = s.part.par.motionBase + len * s.part.par.motionRate / 256 → e * s.part.par.breakRatio ≤ r.pulses * 16 →
          pairs = (l.expected.orders.zip r.samples).map (fun y => (y.1.use, y.2)) →
          (∀ k, run k [] = (k, false)) →
          (∀ k y rest, y.1 = .settle ∨ y.2 = none → run k (y :: rest) = run k rest) →
          (∀ k v rest, run k ((.check, some v) :: rest) =
            if (s.part.thread h m).low ≤ v ∧ v ≤ (s.part.thread h m).high then run 0 rest
            else if s.part.par.tensionCount ≤ k + 1 then ((run 0 rest).1, true)
            else run (k + 1) rest) →
          ∃ (t : State) (samples : List SpanSample), exec (.headReport f) s = .next t ∧
            (t.part.sensing h).debounce = (run g.debounce pairs).1 ∧ (t.part.sensing h).lowRun = 0 ∧
            (t.part.sensing h).lastSpan = some (.evaluated o m r.pulses len e false samples) ∧
            samples.map (fun y => (y.use, y.value)) = pairs ∧
            (∀ y ∈ samples,
              (y.verdict = .missing ↔ y.value = none) ∧ (y.verdict = .settle ↔ y.use = .settle ∧ y.value ≠ none) ∧
              (y.verdict = .inBand ↔ y.use = .check ∧ ∃ v, y.value = some v ∧ (s.part.thread h m).low ≤ v ∧
                v ≤ (s.part.thread h m).high)) ∧
            t.part.mon.threads = s.part.mon.threads ∧ t.part.lib = s.part.lib ∧ t.part.arb.requests = s.part.arb.requests ∧
            ((run g.debounce pairs).2 = false → t.part.heads = s.part.heads ∧ t.part.ctl = s.part.ctl ∧
              t.part.cases = s.part.cases ∧ t.part.port = s.part.port) ∧
            ((run g.debounce pairs).2 = true →
              (t.part.head h).latches = { (s.part.head h).latches with tension := true } ∧
              t.part.port.notices.fault = true ∧ ∀ k, 1 ≤ k → k ≠ h → t.part.head k = s.part.head k)) ∧
        (x.kind = .idle ∨ l.expected.held = true ∨ l.expected.ordinal = none ∨ l.expected.down = false ∨
            s.part.chain.closingVoid = true ∨
            (l.expected.orders = [] ∧ ∀ o, l.expected.ordinal = some o →
              (s.part.par.motionBase + s.part.lengthOf o * s.part.par.motionRate / 256) * s.part.par.breakRatio ≤
                r.pulses * 16) →
          r.button = true →
          ∀ hd : Head, hd = s.part.head h →
          ∃ t : State, exec (.headReport f) s = .next t ∧ (t.part.link h).button = some true ∧
            (∀ k, 1 ≤ k → k ≠ h → t.part.head k = s.part.head k) ∧
            (l.button = some true → t.part.heads = s.part.heads) ∧
            (l.button ≠ some true →
              (s.part.ctl.state = .locked ∨ s.part.ctl.state = .repairing ∨ hd.state = .disabled →
                t.part.head h = { hd with button := some (.ignored, s.part.chain.seq) }) ∧
              (s.part.ctl.state ≠ .locked → s.part.ctl.state ≠ .repairing →
                (hd.state = .active →
                  t.part.head h = { hd with state := .parked .operator, button := some (.parked, s.part.chain.seq) }) ∧
                ∀ cause (fit : Prop), hd.state = .parked cause →
                  (fit ↔ ∃ m, (s.part.selector h).latched = some m ∧ (s.part.thread h m).state = .ready) →
                  (fit → 0 < s.part.par.lostCount →
                    t.part.head h = { hd with state := .active, button := some (.restored, s.part.chain.seq) }) ∧
                  (¬fit → t.part.head h = { hd with button := some (.refused, s.part.chain.seq) }))))

/-! ## The shaft -/

/-- ENCODER_COUNT (R65 to R69). A pair change of both channels, or of none, counts nothing; a forward count raises the angle by
one modulo 1,024, or sets it to 0 at an index passage, which synchronizes it and records the correction; a reverse count lowers
it. A count that brings it to a multiple of 256 measures the speed over the time since the one before (R68). The watch counts
move only while the drive is enabled. A landmark acts only at a forward count, synchronized: the commit angle at 200, the
exchange angle at 400, the trim angle at 640 and window start at its angle are each delivered once, until half a revolution has
passed. Window start hands the head entry's sub-move to the step generators (R34, R52), an entry without steps being complete at
once and a trim entry no part of the move; the exchange angle starts a sewing exchange, whose expectations are those opened by
the one before (R74, R75, R79, R158); the trim angle sends the trim frame (R77; its clear hold flag is log entry 15). The model's
choices: A leads B in the forward sense (log entry 7), the time carried by a count (log entry 3), a landmark armed again half a
revolution past it, synchronized or not (log entry 28). -/
def Obligations.EncoderCountsTheAngle : Prop :=
  (∀ (s : State) (a b i : Bool) (elapsed : Nat), s.awake → s.part.par.inRange → s.part.shaft.angle < 1024 →
    (a = s.part.lines.encA ∧ b = s.part.lines.encB ∨ a ≠ s.part.lines.encA ∧ b ≠ s.part.lines.encB →
      exec (.encoderCount a b i elapsed) s =
        .next (s.put
          { s.part with
            lines := { s.part.lines with encA := a, encB := b, encI := i }, now := s.part.now + elapsed })) ∧
    (a ≠ s.part.lines.encA ∧ b = s.part.lines.encB ∧ s.part.lines.encA ≠ s.part.lines.encB ∨
        a = s.part.lines.encA ∧ b ≠ s.part.lines.encB ∧ s.part.lines.encA = s.part.lines.encB →
      s.part.shaft.reverseRun < 32 →
      exec (.encoderCount a b i elapsed) s =
        .next (s.put
          { s.part with
            lines := { s.part.lines with encA := a, encB := b, encI := i }, now := s.part.now + elapsed
            shaft := { s.part.shaft with
              angle := if s.part.shaft.angle = 0 then 1023 else s.part.shaft.angle - 1
              reverse := true, lastIndex := i
              indexCount := if s.part.shaft.drive = .disabled then 0 else s.part.shaft.indexCount - 1
              reverseRun := if s.part.shaft.drive = .disabled then 0 else s.part.shaft.reverseRun + 1
              standing := false, lastCount := s.part.now + elapsed } })) ∧
    (a ≠ s.part.lines.encA ∧ b = s.part.lines.encB ∧ s.part.lines.encA = s.part.lines.encB ∨
        a = s.part.lines.encA ∧ b ≠ s.part.lines.encB ∧ s.part.lines.encA ≠ s.part.lines.encB →
      s.part.shaft.indexCount < 1100 →
      ∀ (passage : Prop) (x : Nat) (counted : State → Prop),
      (passage ↔ i = true ∧ s.part.shaft.lastIndex = false) →
      ((passage ∧ x = 0) ∨ (¬passage ∧ x = (s.part.shaft.angle + 1) % 1024)) →
      (∀ t, counted t ↔
        t.part.shaft.angle = x ∧ t.part.shaft.reverse = false ∧ t.part.shaft.lastIndex = i ∧
        t.part.shaft.reverseRun = 0 ∧ t.part.shaft.standing = false ∧ t.part.shaft.drive = s.part.shaft.drive ∧
        t.part.shaft.lastCount = s.part.now + elapsed ∧ t.part.now = s.part.now + elapsed ∧
        (x % 256 ≠ 0 →
          t.part.shaft.speed = s.part.shaft.speed ∧ t.part.shaft.lastQuarter = s.part.shaft.lastQuarter) ∧
        (x % 256 = 0 →
          t.part.shaft.lastQuarter = some (s.part.now + elapsed) ∧
          (s.part.shaft.lastQuarter = none → t.part.shaft.speed = s.part.shaft.speed) ∧
          ∀ q, s.part.shaft.lastQuarter = some q → q < s.part.now + elapsed →
            t.part.shaft.speed = 15000000 / (s.part.now + elapsed - q)) ∧
        t.part.shaft.spentCommit = (s.part.shaft.spentCommit && decide (x ≠ 712)) ∧
        t.part.shaft.spentExchange = (s.part.shaft.spentExchange && decide (x ≠ 912)) ∧
        t.part.shaft.spentTrim = (s.part.shaft.spentTrim && decide (x ≠ 128)) ∧
        (if s.part.shaft.spentStart = true ∧ x = (s.part.shaft.startAngle + 512) % 1024 then
          t.part.shaft.spentStart = false ∧ t.part.shaft.startAngle = s.part.par.wStart
        else
          t.part.shaft.spentStart = s.part.shaft.spentStart ∧
            t.part.shaft.startAngle = s.part.shaft.startAngle) ∧
        { t.part with
          lines := s.part.lines, now := s.part.now, free := s.part.free, shaft := s.part.shaft } = s.part) →
      ∃ t : State, exec (.encoderCount a b i elapsed) s = .next t ∧ t.pending = s.pending ∧
        (¬passage →
          s.part.shaft.synced = false ∨
            (600 ≤ s.part.shaft.startAngle ∧ s.part.shaft.startAngle ≤ 900 ∧ x ≠ 200 ∧ x ≠ 400 ∧ x ≠ 640 ∧
              x ≠ s.part.shaft.startAngle) →
          counted t ∧ t.part.shaft.synced = s.part.shaft.synced ∧
          t.part.shaft.correction = s.part.shaft.correction ∧
          t.part.shaft.indexCount = (if s.part.shaft.drive = .disabled then 0 else s.part.shaft.indexCount + 1)) ∧
        (passage → 600 ≤ s.part.shaft.startAngle → s.part.shaft.startAngle ≤ 900 →
          counted t ∧ t.part.shaft.synced = true ∧ t.part.shaft.indexCount = 0 ∧
          t.part.shaft.correction =
            (if s.part.shaft.angle = 1023 then 0
            else if 511 ≤ s.part.shaft.angle then (s.part.shaft.angle : Int) - 1023
            else (s.part.shaft.angle : Int) + 1)) ∧
        (s.part.shaft.synced = true → s.part.shaft.angle = 199 → s.part.shaft.spentCommit = false →
          s.part.shaft.startAngle ≠ 200 → ¬(i = true ∧ s.part.shaft.lastIndex = false) →
          ∃ q : Part, t.part = q.commitAngle ∧ q.shaft.angle = 200 ∧ q.shaft.spentCommit = true ∧
            q.plan = s.part.plan ∧ q.chain = s.part.chain ∧ q.ctl = s.part.ctl ∧ q.pos = s.part.pos ∧
            q.mon = s.part.mon ∧ q.heads = s.part.heads ∧ q.arb = s.part.arb ∧ q.cases = s.part.cases ∧
            q.par = s.part.par ∧ q.lib = s.part.lib) ∧
        (s.part.shaft.synced = true → s.part.shaft.angle = 199 → s.part.shaft.spentCommit = true →
          s.part.shaft.startAngle ≠ 200 → ¬(i = true ∧ s.part.shaft.lastIndex = false) →
          t.part.plan = s.part.plan ∧ t.part.chain = s.part.chain ∧ t.part.ctl = s.part.ctl) ∧
        (∀ (x : Nat) (act : Part → Part), s.part.shaft.synced = true → s.part.shaft.angle + 1 = x →
          600 ≤ s.part.shaft.startAngle → s.part.shaft.startAngle ≤ 900 →
          ¬(i = true ∧ s.part.shaft.lastIndex = false) →
          (x = 400 ∧ s.part.shaft.spentExchange = false ∧ act = fun q => q.startExchange .sewing) ∨
            (x = 640 ∧ s.part.shaft.startAngle ≠ 640 ∧ s.part.shaft.spentTrim = false ∧ act = Part.trimFrame) ∨
            (x = s.part.shaft.startAngle ∧ x ≠ 640 ∧ s.part.shaft.spentStart = false ∧ act = Part.windowStart) →
          ∃ q : Part, t.part = act q ∧ q.shaft.angle = x ∧ q.now = s.part.now + elapsed ∧
            (x = 400 → q.shaft.spentExchange = true) ∧ (x = 640 → q.shaft.spentTrim = true) ∧
            (x = s.part.shaft.startAngle → q.shaft.spentStart = true) ∧
            (∀ z, x = 768 → s.part.shaft.lastQuarter = some z → z < s.part.now + elapsed →
              q.shaft.speed = 15000000 / (s.part.now + elapsed - z)) ∧ q.shaft.drive = s.part.shaft.drive ∧
            q.plan = s.part.plan ∧ q.chain = s.part.chain ∧ q.ctl = s.part.ctl ∧ q.pos = s.part.pos ∧
            q.mon = s.part.mon ∧ q.heads = s.part.heads ∧ q.arb = s.part.arb ∧ q.cases = s.part.cases ∧
            q.par = s.part.par ∧ q.lib = s.part.lib) ∧
        (∀ x : Nat, s.part.shaft.synced = true → s.part.shaft.angle + 1 = x → 600 ≤ s.part.shaft.startAngle →
          s.part.shaft.startAngle ≤ 900 → ¬(i = true ∧ s.part.shaft.lastIndex = false) →
          (x = 400 ∧ s.part.shaft.spentExchange = true) ∨
            (x = 640 ∧ s.part.shaft.startAngle ≠ 640 ∧ s.part.shaft.spentTrim = true) ∨
            (x = s.part.shaft.startAngle ∧ x ≠ 640 ∧ s.part.shaft.spentStart = true) →
          t.part.plan = s.part.plan ∧ t.part.chain = s.part.chain ∧ t.part.ctl = s.part.ctl ∧
          t.part.pos = s.part.pos))) ∧
  (∀ p q : Part, q = p.windowStart →
    (p.plan.queue = [] → q = p) ∧
    ∀ e rest, p.plan.queue = e :: rest →
      (e.issued = true → q = p) ∧
      (e.issued = false →
        q.plan =
          { p.plan with queue := { e with issued := true, complete := decide (e.steps = ⟨0, 0⟩) } :: rest } ∧
        { q with plan := p.plan, pos := p.pos } = p ∧
        (e.count < e.index → q.pos = p.pos) ∧
        (e.index ≤ e.count →
          q.pos.n = p.pos.n ∧ q.pos.p = p.pos.p ∧ q.pos.busy = (p.pos.busy || decide (e.steps ≠ ⟨0, 0⟩)) ∧
          q.pos.dirX = (if e.steps.x = 0 then p.pos.dirX else decide (0 < e.steps.x)) ∧
          q.pos.dirY = (if e.steps.y = 0 then p.pos.dirY else decide (0 < e.steps.y)) ∧
          (∀ m, p.pos.move = some m →
            q.pos.move = some { m with goal := m.goal.add e.steps, rate := p.plan.demand }) ∧
          ∀ sv, p.pos.move = none → p.serve e.ordinal = some sv →
            q.pos.move = some
              { kind := .sewing, start := p.pos.n
                target := p.committed ((p.pos.p.getD ⟨0, 0⟩).add (p.idealStep sv.d)), goal := p.pos.n.add e.steps
                interrupted := false, stopping := false, rate := p.plan.demand, searchX := .found
                searchY := .found }))) ∧
  (∀ p q : Part, p.complete → q = p.startExchange .sewing →
    { q with chain := p.chain } = p ∧ q.chain.seq = (p.chain.seq + 1) % 256 ∧ q.chain.lastKind = .sewing ∧
      q.chain.lastStart = p.now ∧ q.chain.exchange = some ⟨.sewing, 1, p.par.headsFitted⟩ ∧
      q.chain.out = p.chain.out ++ [.poll ((p.chain.seq + 1) % 256) .sewing p.par.headsFitted] ∧
      q.chain.closingVoid = p.chain.openVoid ∧ q.chain.openVoid = false ∧
      ∀ h, isHead h = true →
        q.link h = { p.link h with expected := (p.link h).opened, opened := (p.link h).recorded }) ∧
  ∀ p : Part,
    p.trimFrame = { p with chain := { p.chain with out := p.chain.out ++ [.hold p.chain.seq .trim false] } }

/-- SHAFT_STANDING (R68): the shaft stands at speed 0 and the spans open are void. POSITIONING_COMPLETE (R71, R70): while POSITIONING,
with the shaft standing at a synchronized needle-up angle, the drive goes to HOLDING, or to TURNING when a run order waited; in
SETTLING the report ends the stop by the table of R99, for origin COLOUR by the change of StartBeginsSewing. With any condition
missing only the line's level is noted, and of a shaft that stands already nothing (log entry 47). The open spans are those of
section 8.3 (R158), and the event comes 100 ms after the last count (log entry 3); the end of a repair run's SEWING is stated in
RepairTakenGoesOutbound. -/
def Obligations.StandingAndNeedleUp : Prop :=
  ∀ s : State, s.awake →
    (s.part.shaft.standing = false →
      ∃ t : State, exec .shaftStanding s = .next t ∧ t.part.shaft.standing = true ∧ t.part.shaft.speed = 0 ∧
        t.part.chain.openVoid = true ∧ s.part.shaft.lastCount + 100000 ≤ t.part.now ∧
        { t.part with shaft := s.part.shaft, chain := s.part.chain, now := s.part.now } = s.part ∧
        { t.part.shaft with
          standing := false, speed := s.part.shaft.speed, lastQuarter := s.part.shaft.lastQuarter } = s.part.shaft) ∧
    (s.part.shaft.standing = true → exec .shaftStanding s = .next s) ∧
    (∀ ok : Prop,
      (ok ↔ s.part.shaft.drive = .positioning ∧ s.part.shaft.standing = true ∧ s.part.shaft.synced = true ∧
        (1008 ≤ s.part.shaft.angle ∨ s.part.shaft.angle ≤ 16)) →
      (¬ok →
        exec .positioningComplete s =
          .next (s.put { s.part with lines := { s.part.lines with drvPos := true } })) ∧
      (ok → ¬(s.part.ctl.state = .stopping ∧ s.part.ctl.phase = some .settling) →
        (∀ r, s.part.ctl.state = .repairing → s.part.ctl.repair = some r → r.phase = .sewing →
          r.stopReached = false) →
        exec .positioningComplete s =
          .next (s.put
            { s.part with
              lines := { s.part.lines with drvPos := true }
              shaft := { s.part.shaft with
                drive := if s.part.shaft.runWaiting then .turning else .holding, runWaiting := false
                posSince := none } })) ∧
      (∀ b : Block, ok → s.part.ctl.state = .stopping → s.part.ctl.phase = some .settling →
        s.part.ctl.origin = some .colour → s.part.ctl.pending = none →
        (s.part.activeDesign.bind fun x => x.blockOf s.part.cur) = some b →
        exec .positioningComplete s =
          .next (s.put
            (({ s.part with
              lines := { s.part.lines with drvPos := true }
              ctl := { s.part.ctl with armed := s.part.ctl.armed && s.part.par.startRepeat }
              shaft := { s.part.shaft with
                drive := if s.part.shaft.runWaiting then .turning else .holding, runWaiting := false
                posSince := none } } : Part).enterChanging .colour b.slot))) ∧
      (∀ cause, ok → s.part.ctl.state = .stopping → s.part.ctl.phase = some .settling →
        s.part.shaft.runWaiting = false →
        ((s.part.ctl.origin = some .designEnd ∧ cause = .designEnd) ∨
          (∃ g k, s.part.ctl.origin = some g ∧ g ≠ .designEnd ∧ s.part.ctl.pending = some k ∧
            ((k = .stop ∧ cause = .stop) ∨ (k = .line ∧ cause = .line) ∨ (k = .fault ∧ cause = .fault) ∨
              (k = .casesFull ∧ cause = .casesFull))) ∨
          (s.part.ctl.pending = none ∧
            ((s.part.ctl.origin = some .halt ∧ cause = .halt) ∨ (s.part.ctl.origin = some .count ∧ cause = .count) ∨
              (s.part.ctl.origin = some .line ∧ cause = .line)))) →
        ∃ t : State, exec .positioningComplete s = .next t ∧ t.part.ctl.state = .ready ∧ t.part.ctl.cause = cause ∧
          t.part.ctl.phase = none ∧ t.part.ctl.pending = none ∧ t.part.ctl.origin = none ∧
          t.part.ctl.armed = (s.part.ctl.armed && s.part.par.startRepeat) ∧ t.part.ctl.c = s.part.ctl.c ∧
          t.part.ctl.design = s.part.ctl.design ∧ t.part.ctl.slot = s.part.ctl.slot ∧ t.part.shaft.drive = .holding ∧
          t.part.port.notices.stopped = true ∧ t.part.plan.queue = []))

/-- A lock cause taken outside LOCKED (R64, R67, R70 to R72, R82, R104, R105, R149): ESTOP_FALL, DRV_FLT_FALL and the watch trips
with the drive enabled, alone or by the ENCODER_COUNT that takes the index count above 1,100 or the reverse run above 32, the
positioning timeout in POSITIONING. The controller is LOCKED with the cause and the state it came from;
nothing moves any more and no needle goes down; design, c, slot, repair context, library, maps, parameters and head records are
kept; STOPPED is raised. The move in progress is interrupted and kept with its target, a sewing move with the
committed position of P (R39; in a repair run that is log entry 55). A request in flight ends FAILED(ABORT), one of SELECT raising
SELECT_DONE, a MOVING selector is UNSURE and ordered to halt, and every slot is free (R149; that the deadline goes is log entry 64).
The span then open is void (R168; a span already closing is judged, log entry 54). In LOCKED the first
cause stays; with the drive DISABLED the watches and the drive fault do nothing. A trip of a watch is taken as it comes, without a
look at its count (log entry 9), a count that trips the index watch delivers no landmark (log entry 61), and a timeout outside
POSITIONING does nothing (log entry 47). That v_set is kept is log entry 23,
the drive fault with the drive DISABLED log entry 25. -/
def Obligations.LockMakesSafe : Prop :=
  (∀ (s : State) (c : Instr) (cause : LockCause) (overrun : Bool → Prop), s.awake → s.part.complete →
    s.part.ctl.state ≠ .locked →
    (∀ index, overrun index ↔ ∃ a b i elapsed, c = .encoderCount a b i elapsed ∧
      (index = true ∧ 1100 ≤ s.part.shaft.indexCount ∧ ¬(i = true ∧ s.part.shaft.lastIndex = false) ∧
          (a ≠ s.part.lines.encA ∧ b = s.part.lines.encB ∧ s.part.lines.encA = s.part.lines.encB ∨
            a = s.part.lines.encA ∧ b ≠ s.part.lines.encB ∧ s.part.lines.encA ≠ s.part.lines.encB) ∨
        index = false ∧ 32 ≤ s.part.shaft.reverseRun ∧
          (a ≠ s.part.lines.encA ∧ b = s.part.lines.encB ∧ s.part.lines.encA ≠ s.part.lines.encB ∨
            a = s.part.lines.encA ∧ b ≠ s.part.lines.encB ∧ s.part.lines.encA = s.part.lines.encB))) →
    (c = .estopFall ∧ cause = .estop) ∨ (c = .drvFltFall ∧ cause = .drive ∧ s.part.shaft.drive ≠ .disabled) ∨
      (c = .indexWatchTrip ∧ cause = .encoder ∧ s.part.shaft.drive ≠ .disabled) ∨
      (c = .reverseWatchTrip ∧ cause = .encoder ∧ s.part.shaft.drive ≠ .disabled) ∨
      ((∃ index, overrun index) ∧ cause = .encoder ∧ s.part.shaft.drive ≠ .disabled) ∨
      (c = .positioningTimeout ∧ cause = .positioning ∧ s.part.shaft.drive = .positioning) →
    ∃ t : State, exec c s = .next t ∧ t.pending = s.pending ∧ t.part.ctl.state = .locked ∧
      t.part.ctl.lockCause = some cause ∧ t.part.atRest ∧
      (¬(s.part.ctl.state = .traversing ∧ s.part.travelKind = some .clear) →
        t.part.ctl.lockedFrom = some ⟨s.part.ctl.state, s.part.ctl.phase, s.part.ctl.travel⟩) ∧
      (s.part.ctl.state = .traversing → s.part.travelKind = some .clear →
        t.part.ctl.lockedFrom = s.part.ctl.lockedFrom) ∧
      t.part.ctl.design = s.part.ctl.design ∧ t.part.ctl.c = s.part.ctl.c ∧ t.part.ctl.slot = s.part.ctl.slot ∧
      t.part.ctl.cause = s.part.ctl.cause ∧ t.part.ctl.repair = s.part.ctl.repair ∧ t.part.ctl.armed = false ∧
      t.part.ctl.pending = none ∧ t.part.ctl.origin = none ∧ t.part.port.notices.stopped = true ∧
      t.part.lib = s.part.lib ∧ t.part.maps = s.part.maps ∧ t.part.par = s.part.par ∧ t.part.heads = s.part.heads ∧
      t.part.cases.records = s.part.cases.records ∧ t.part.pos.p = s.part.pos.p ∧
      t.part.pos.homed = s.part.pos.homed ∧ t.part.pos.placement = s.part.pos.placement ∧
      t.part.chain.openVoid = true ∧ t.part.plan.vSet = s.part.plan.vSet ∧
      t.part.plan.requested = s.part.plan.requested ∧
      (s.part.pos.move = none → t.part.pos.move = none) ∧
      (∀ (m : Move) (pl : Placement) (v w : Vec), s.part.pos.move = some m → s.part.pos.placement = some pl →
        s.part.pos.p = some v → w = (if m.kind = .sewing then pl.committed v else m.target) →
        t.part.pos.move = some { m with interrupted := true, target := w, goal := w }) ∧
      (∀ m, s.part.pos.move = some m → m.kind ≠ .sewing →
        t.part.pos.move = some { m with interrupted := true, goal := m.target }) ∧
      (∀ h, isHead h = true →
        t.part.changeRequest h =
          (if (s.part.changeRequest h).state.inFlight then
            { s.part.changeRequest h with
              state := .failed .abort, cancelFinished := (s.part.changeRequest h).cancelAsked, deadline := none }
          else s.part.changeRequest h) ∧
        t.part.selector h =
          (if (s.part.selector h).state = .moving then
            { s.part.selector h with state := .unsure, halt := true, latched := none }
          else s.part.selector h)) ∧
      (∀ y ∈ t.part.arb.slots, y = none) ∧
      (t.part.port.notices.selectDone = true ↔ s.part.port.notices.selectDone = true ∨
        ∃ h, isHead h = true ∧ (s.part.changeRequest h).state.inFlight = true ∧
          (s.part.changeRequest h).origin = .manual) ∧
      (c = .indexWatchTrip ∨ overrun true → t.part.shaft.synced = false ∧ t.part.shaft.lastFault = .index) ∧
      (c = .reverseWatchTrip ∨ overrun false →
        t.part.shaft.synced = s.part.shaft.synced ∧ t.part.shaft.lastFault = .reverse) ∧
      (overrun true → t.part.shaft.angle = (s.part.shaft.angle + 1) % 1024) ∧
      (overrun false → t.part.shaft.angle = (s.part.shaft.angle + 1023) % 1024) ∧
      t.part.shaft.indexCount = 0 ∧ t.part.shaft.reverseRun = 0) ∧
  ∀ s : State, s.awake →
    (s.part.ctl.state = .locked →
      exec .estopFall s = .next (s.put { s.part with lines := { s.part.lines with estop := false } })) ∧
    (s.part.shaft.drive = .disabled →
      exec .drvFltFall s = .next (s.put { s.part with lines := { s.part.lines with drvFlt := false } }) ∧
      exec .indexWatchTrip s = .next s ∧ exec .reverseWatchTrip s = .next s) ∧
    (s.part.shaft.drive ≠ .positioning → exec .positioningTimeout s = .next s)

/-! ## The run controller -/

/-- LOOKUP MACHINE and AMEND MACHINE (R51, R109, R213). LOOKUP MACHINE carries the machine record and the notice set, which is then
empty, so ATTN returns high. AMEND MACHINE stores the speed clamped to v_min to v_max; v_set follows at once outside the sewing
states and REPAIRING, where it is left to the next demand. N in the record is the count at this moment: during a move it is read
anew (log entry 5). A selector above 1, or value bytes that are not 0 of a speed not given, is RANGE (R209). -/
def Obligations.MachineRecordAndSpeed : Prop :=
  ∀ s : State, s.listens →
    ∃ (n : Vec) (f : Nat) (p : Part),
      p = { s.part with pos := { s.part.pos with n := n }, free := f } ∧ (s.part.moving = false → p = s.part) ∧
      (∃ t : State,
        t = s.answered
          { p with port := { p.port with notices := ⟨false, false, false, false, false, false, false⟩ } }
          0x30 .done (p.machineItems ++ [.u 1 s.part.port.notices.byte]) ∧
        exec .lookupMachine s = .next t ∧ t.part.attnLow = false) ∧
      (∀ (v r vs : Nat) (q : Part), r = clampNat p.par.vMin p.par.vMax v →
        vs = (match p.ctl.state with
          | .starting | .running | .stopping | .repairing => p.plan.vSet
          | _ => r) →
        q = { p with plan := { p.plan with requested := r, vSet := vs } } →
        exec (.amendMachine ⟨1, v⟩) s = .next (s.answered q 0x31 .done q.machineItems)) ∧
      exec (.amendMachine ⟨0, 0⟩) s = .next (s.answered p 0x31 .done p.machineItems) ∧
      ∀ k v, (2 ≤ k ∨ (k = 0 ∧ v ≠ 0)) → exec (.amendMachine ⟨k, v⟩) s = .next (s.answered p 0x31 .range p.machineItems)

/-- ACTIVATE (R33, R86, R195). With every check passed the design is ACTIVE and the one before it SEALED, the placement is stored, P
and c are 0, the current slot is that of the first colour block, and one leg runs to the origin under a flushed planner;
DISCARD retires the live cases of the design before. The checks refuse in the order of R86 and a refusal changes nothing.
An orientation, a mirror or a DISCARD outside its encoding is refused with RANGE; that it is found at check 5, behind CASES, is the
model's choice (log entry 14), and so is a leg started even over no distance (log entry 21). -/
def Obligations.ActivateBringsTheFrameToTheOrigin : Prop :=
  (∀ (s : State) (d : Nat) (ox oy : Int) (orient mir sx sy disc : Nat) (v : Derived) (live : Prop), s.listens →
    (live ↔ ∃ k, s.part.ctl.design = some k ∧ s.part.casesName k = true) →
    (s.part.ctl.state = .unready ∨ s.part.ctl.state = .ready) → d < 16 → (s.part.lib.design d).state = .sealed →
    (s.part.lib.design d).derived = some v → (3 < orient ∨ 1 < mir ∨ 1 < disc) →
    ∃ items,
      ((live → disc = 1) →
        exec (.activate d ox oy orient mir sx sy disc) s = .next (s.answered s.part 0x32 .range items)) ∧
      (live → disc ≠ 1 →
        exec (.activate d ox oy orient mir sx sy disc) s = .next (s.answered s.part 0x32 .cases items))) ∧
  ∀ (s : State) (d : Nat) (ox oy : Int) (orient mir sx sy disc : Nat) (o : Orientation) (m : Bool) (v : Derived)
    (pl : Placement), s.listens → s.part.lib.designs.length = 16 →
    ((orient = 0 ∧ o = .r0) ∨ (orient = 1 ∧ o = .r90) ∨ (orient = 2 ∧ o = .r180) ∨ (orient = 3 ∧ o = .r270)) →
    ((mir = 0 ∧ m = false) ∨ (mir = 1 ∧ m = true)) → disc ≤ 1 →
    pl = ⟨⟨ox, oy⟩, o, m, clampNat 512 2048 sx, clampNat 512 2048 sy⟩ →
    ∀ live inRange : Prop,
      (live ↔ ∃ k, s.part.ctl.design = some k ∧ s.part.casesName k = true) →
      (inRange ↔ -8388607 ≤ ox ∧ ox ≤ 8388607 ∧ -8388607 ≤ oy ∧ oy ≤ 8388607) →
    ((s.part.ctl.state = .unready ∨ s.part.ctl.state = .ready) → d < 16 → (s.part.lib.design d).state = .sealed →
      (s.part.lib.design d).derived = some v → (live → disc = 1) → inRange → s.part.pos.homed = true →
      pl.fits s.part.par v.extent s.part.pos.hoop = true →
      ∃ q : Part,
        exec (.activate d ox oy orient mir sx sy disc) s = .next (s.answered q 0x32 .taken pl.items) ∧
        q.ctl =
          { s.part.ctl with
            state := .traversing, design := some d, c := some 0, slot := v.blocks.head?.map Block.slot, cause := .none
            armed := false, travel := some ⟨.activate, .frame ⟨ox, oy⟩, false, none⟩ } ∧
        q.pos =
          { s.part.pos with
            placement := some pl, p := some ⟨0, 0⟩, plan := none
            dirX := if ox = s.part.pos.n.x then s.part.pos.dirX else decide (s.part.pos.n.x < ox)
            dirY := if oy = s.part.pos.n.y then s.part.pos.dirY else decide (s.part.pos.n.y < oy)
            move := some
              { kind := .leg, start := s.part.pos.n, target := ⟨ox, oy⟩, goal := ⟨ox, oy⟩, interrupted := false
                stopping := false, rate := s.part.par.fTrav, searchX := .found, searchY := .found } } ∧
        (∀ k, k < 16 →
          q.lib.design k =
            { s.part.lib.design k with
              state := if k = d then .active else if s.part.ctl.design = some k then .sealed
                else (s.part.lib.design k).state }) ∧
        q.lib.stitches = s.part.lib.stitches ∧ q.lib.sealer = s.part.lib.sealer ∧
        q.cases.records =
          (s.part.cases.records.map fun r =>
            r.filter fun x => !(decide (disc = 1 ∧ s.part.ctl.design = some x.design) && x.state.isLive)) ∧
        (∀ h, isHead h = true → q.selector h = { s.part.selector h with skip := none } ∨ s.part.arb.selectors.length < h) ∧
        q.plan.queue = [] ∧ q.plan.fill = none ∧ q.plan.stop = .none ∧ q.plan.demand = 0 ∧
        q.arb.requests = s.part.arb.requests ∧ q.maps = s.part.maps ∧ q.heads = s.part.heads ∧ q.par = s.part.par ∧
        q.mon.threads = s.part.mon.threads ∧ q.shaft.drive = s.part.shaft.drive ∧ q.chain = s.part.chain ∧
        q.port.notices = s.part.port.notices) ∧
    ∀ st : Status,
      ((s.part.ctl.state = .traversing ∧ st = .busy) ∨ (s.part.ctl.state = .locked ∧ st = .locked) ∨
        (s.part.ctl.state ≠ .traversing ∧ s.part.ctl.state ≠ .locked ∧ s.part.ctl.state ≠ .unready ∧
          s.part.ctl.state ≠ .ready ∧ st = .state) ∨
        ((s.part.ctl.state = .unready ∨ s.part.ctl.state = .ready) ∧
          ((16 ≤ d ∧ st = .range) ∨ (d < 16 ∧ (s.part.lib.design d).state ≠ .sealed ∧ st = .state) ∨
            (d < 16 ∧ (s.part.lib.design d).state = .sealed ∧ (s.part.lib.design d).derived = some v ∧
              ((live ∧ disc = 0 ∧ st = .cases) ∨
                ((live → disc = 1) ∧
                  ((¬inRange ∧ st = .range) ∨ (inRange ∧ s.part.pos.homed = false ∧ st = .notHomed) ∨
                    (inRange ∧ s.part.pos.homed = true ∧ pl.fits s.part.par v.extent s.part.pos.hoop = false ∧
                      st = .range)))))))) →
      ∃ items, exec (.activate d ox oy orient mir sx sy disc) s = .next (s.answered s.part 0x32 st items)

/-- DEACTIVATE (R88, R195): in READY the design goes to SEALED, placement, P, design, c and slot become absent, armed and the stop
cause are cleared, the planner is flushed, the drive is DISABLED, the controller is UNREADY and no notice is raised. Live cases
of the design refuse it without DISCARD and are retired with it. The model's choices: a DISCARD of 2 or more is RANGE also while
live cases name the design (log entry 14), and DONE carries the machine record, CASES and RANGE nothing (log entry 49). -/
def Obligations.DeactivateReturnsToUnready : Prop :=
  ∀ (s : State) (disc : Nat), s.listens → s.part.lib.designs.length = 16 →
    ∀ live : Prop, (live ↔ ∃ k, s.part.ctl.design = some k ∧ s.part.casesName k = true) →
    (s.part.ctl.state = .ready → disc ≤ 1 → (live → disc = 1) →
      ∃ q : Part,
        exec (.deactivate disc) s = .next (s.answered q 0x33 .done q.machineItems) ∧
        q.ctl =
          { s.part.ctl with
            state := .unready, design := none, c := none, slot := none, armed := false, cause := .none, phase := none
            origin := none, pending := none, change := none, travel := none } ∧
        q.changeDue = false ∧
        q.pos = { s.part.pos with placement := none, p := none, plan := none } ∧ q.shaft.drive = .disabled ∧
        q.shaft.demand = 0 ∧ q.plan.queue = [] ∧ q.plan.fill = none ∧ q.plan.stop = .none ∧ q.plan.demand = 0 ∧
        (∀ k, k < 16 →
          q.lib.design k =
            { s.part.lib.design k with
              state := if s.part.ctl.design = some k then .sealed else (s.part.lib.design k).state }) ∧
        q.cases.records =
          (s.part.cases.records.map fun r =>
            r.filter fun x => !(decide (disc = 1 ∧ s.part.ctl.design = some x.design) && x.state.isLive)) ∧
        q.port.notices = s.part.port.notices ∧ q.maps = s.part.maps ∧ q.heads = s.part.heads ∧ q.par = s.part.par ∧
        q.arb.requests = s.part.arb.requests ∧ q.mon.threads = s.part.mon.threads ∧ q.chain = s.part.chain) ∧
    (s.part.ctl.state = .ready → disc = 0 → live → exec (.deactivate disc) s = .next (s.answered s.part 0x33 .cases [])) ∧
    (s.part.ctl.state = .ready → 2 ≤ disc → exec (.deactivate disc) s = .next (s.answered s.part 0x33 .range [])) ∧
    ∀ st : Status, s.part.ctl.state ≠ .ready →
      st = (match s.part.ctl.state with
        | .traversing => Status.busy
        | .locked => Status.locked
        | _ => Status.state) →
      exec (.deactivate disc) s = .next (s.answered s.part 0x33 st [])

/-- START and the START line (R89 to R91, R138 to R142, R188). In READY before the design's end, with no change due, every
fitted head at rest with its mapped, READY needle (or without one, passed over, PARKED or DISABLED) and DRV_FLT high, the
needles are latched, the controller is STARTING, the queue fills from (c, 1), the first demand is min(v_allow(e1), v_min) and
the drive turns. A case opens at c for every PARKED head without one, in ascending head number (R188), or, the table full, the
machine is asked to stop with CASES_FULL (R189). The line does the same when armed and nothing otherwise; the refusals of START
follow R89. With a change due, or work found for a head at the current slot, START and the line enter CHANGING. That START
answers the state at the end of its step is the model's choice (log entry 15), the order inside the entry into STARTING its
reading (log entry 24). Entry into CHANGING opens the change record;
every fitted head then has its outcome of R138: without a needle it sits out, with a request in flight or a moving selector it
waits, with a thread not READY or a selector JAMMED or UNSURE it is parked, at its needle the needle is latched, elsewhere a
DEMAND request is added. With no request and no head waiting the change ends in the same step, in READY with COLOUR, the flush
dropping the restore marks (R46, R193), or in STARTING (R100, R144). -/
def Obligations.StartBeginsSewing : Prop :=
  (∀ (s : State) (d c slot : Nat) (x : Design) (b : Block) (sv : Served), s.part.complete →
    s.part.ctl.state = .ready → s.part.ctl.design = some d → x = s.part.lib.design d → s.part.ctl.c = some c →
    c < x.total → x.blockOf c = some b → s.part.lib.serve x c = some sv → s.part.ctl.slot = some slot → b.slot = slot →
    s.part.maps.held = none → s.part.par.autoStrobe = .off → s.part.lines.drvFlt = true → s.part.par.headsFitted ≤ 20 →
    s.part.shaft.drive = .disabled ∨ s.part.shaft.drive = .holding →
    (∀ h, 1 ≤ h → h ≤ s.part.par.headsFitted →
      (s.part.head h).state = .disabled ∨ (∃ k, (s.part.head h).state = .parked k) ∨
        (s.part.selector h).skip = some b.number ∨ s.part.mapEntry h slot = none ∨
        ∃ n, s.part.mapEntry h slot = some n ∧ (s.part.changeRequest h).state.inFlight = false ∧
          (s.part.thread h n).state = .ready ∧ (s.part.selector h).state = .atNeedle n) →
    ∀ (opens : Nat → Prop) (begun opened : Part → Prop),
      (∀ h, opens h ↔ isHead h = true ∧ (∃ k, (s.part.head h).state = .parked k) ∧ s.part.openCaseOf h = none) →
      (∀ h, opens h → ∀ j r, s.part.caseAt j = some r → r.head ≠ h) →
      (∀ q, begun q ↔
        q.shaft.drive = .turning ∧ q.shaft.demand = q.plan.demand ∧
        (∃ e rest, q.plan.queue = e :: rest ∧ e.ordinal = c ∧ e.index = 1 ∧
          q.plan.demand = min e.vAllow s.part.par.vMin) ∧
        (∀ h, 1 ≤ h → h ≤ s.part.par.headsFitted →
          ((s.part.head h).state = .active → (s.part.selector h).skip ≠ some b.number →
            (q.selector h).latched = s.part.mapEntry h slot) ∧
          ∀ k, (s.part.head h).state = .parked k →
            (q.selector h).latched =
              match s.part.mapEntry h slot with
              | some n => if (s.part.selector h).state = .atNeedle n then some n else none
              | none => none) ∧
        q.heads = s.part.heads ∧ q.pos.n = s.part.pos.n ∧
        q.pos.p = s.part.pos.p ∧ q.lib = s.part.lib ∧ q.par = s.part.par ∧ q.maps = s.part.maps ∧
        q.arb.requests = s.part.arb.requests) →
      (∀ q, opened q ↔
        q.ctl = { s.part.ctl with state := .starting, phase := none, change := none, travel := none } ∧
        (∀ j r, s.part.caseAt j = some r → q.caseAt j = some r) ∧
        (∀ h, opens h → ∃ j, s.part.caseAt j = none ∧
          q.caseAt j = some
            { head := h, design := d, slot := slot, first := c, last := none, floor := none, state := .isOpen
              progress := none } ∧
          ∀ i y, s.part.caseAt i = none → q.caseAt i = some y → (y.head < h ↔ i < j)) ∧
        (∀ j r, s.part.caseAt j = none → q.caseAt j = some r → opens r.head) ∧
        ((∀ h, ¬opens h) → q.cases.records = s.part.cases.records ∧ q.port.notices = s.part.port.notices) ∧
        ((∃ h, opens h) → q.port.notices = { s.part.port.notices with case := true })) →
      ((allHeads.countP fun h => (s.part.head h).state.isParked && (s.part.openCaseOf h).isNone) ≤
          ((List.range 40).countP fun k => (s.part.caseAt k).isNone) →
        (s.listens → ∃ q, exec .start s = .next (s.answered q 0x34 .taken [.u 1 3]) ∧ begun q ∧ opened q) ∧
        (s.awake → s.part.ctl.armed = true → ∃ t, exec .startLineFall s = .next t ∧ begun t.part ∧ opened t.part)) ∧
      ((∃ h, opens h) → (∀ k, k < 40 → s.part.caseAt k ≠ none) →
        ∀ full : Part → Prop,
          (∀ q, full q ↔ begun q ∧ q.cases.records = s.part.cases.records ∧ q.port.notices = s.part.port.notices ∧
            q.ctl =
              { s.part.ctl with
                state := .stopping, phase := some .slowing, change := none, travel := none
                pending := some (s.part.ctl.pending.getD .casesFull) }) →
          (s.listens → ∃ q, exec .start s = .next (s.answered q 0x34 .taken [.u 1 5]) ∧ full q) ∧
          (s.awake → s.part.ctl.armed = true → ∃ t, exec .startLineFall s = .next t ∧ full t.part))) ∧
  (∀ s : State, s.awake →
    (s.part.ctl.state ≠ .ready ∨ s.part.ctl.armed = false ∨
      s.part.cur = (s.part.activeDesign.map Design.total).getD 0) →
    exec .startLineFall s = .next (s.put { s.part with lines := { s.part.lines with start := false } })) ∧
  (∀ (s : State) (st : Status), s.listens →
    st = (match s.part.ctl.state with
      | .traversing => Status.busy
      | .locked => Status.locked
      | _ => Status.state) →
    (s.part.ctl.state ≠ .ready ∨ s.part.cur = (s.part.activeDesign.map Design.total).getD 0) →
    exec .start s = .next (s.answered s.part 0x34 st [])) ∧
  (∀ (s : State) (b : Block) (slot : Nat) (line p q : Part) (work : Nat → Prop), s.part.ctl.state = .ready →
    line = { s.part with lines := { s.part.lines with start := false } } →
    s.part.cur ≠ (s.part.activeDesign.map Design.total).getD 0 →
    (s.part.activeDesign.bind fun x => x.blockOf s.part.cur) = some b →
    (∀ h, work h ↔ 1 ≤ h ∧ h ≤ s.part.par.headsFitted ∧ (s.part.head h).state = .active ∧
      (s.part.selector h).skip ≠ some b.number ∧
      ∃ n, s.part.mapEntry h slot = some n ∧
        ((s.part.changeRequest h).state.inFlight = true ∨ (s.part.thread h n).state ≠ .ready ∨
          (s.part.selector h).state ≠ .atNeedle n)) →
    (s.part.changeDue = true ∧ slot = b.slot ∧ p = s.part) ∨
      (s.part.changeDue = false ∧ s.part.ctl.slot = some slot ∧ (∃ h, work h) ∧ s.part.maps.held = none ∧
        s.part.par.autoStrobe = .off ∧
        p = { s.part with
          arb := { s.part.arb with
            selectors := s.part.arb.selectors.map fun x =>
              { x with skip := if x.skip = some b.number then x.skip else none } } }) →
    (s.listens → q = p.enterChanging .start slot →
      exec .start s = .next (s.answered q 0x34 .taken [.u 1 q.ctl.state.code])) ∧
    (s.awake → s.part.ctl.armed = true →
      q = ({ p with lines := line.lines } : Part).enterChanging .start slot →
      exec .startLineFall s = .next (s.put q))) ∧
  (∀ (p q : Part) (kind : ChangeKind) (b : Block) (slot : Nat), p.complete → p.par.headsFitted ≤ 20 →
    p.maps.held = none → p.par.autoStrobe = .off → (p.activeDesign.bind fun x => x.blockOf p.cur) = some b →
    q = p.enterChanging kind slot → (∀ h, isHead h = true → (p.changeRequest h).state.inFlight = false) →
    ∀ asked : Nat → Prop,
      (∀ h, asked h ↔ 1 ≤ h ∧ h ≤ p.par.headsFitted ∧ (p.head h).state = .active ∧
        (p.selector h).skip ≠ some b.number) →
      (∀ h n, asked h → p.mapEntry h slot = some n → (p.thread h n).state = .ready →
        (p.selector h).state = .atNeedle n ∨ (p.selector h).state = .jammed ∨ (p.selector h).state = .unsure) →
      (∃ c : ChangeRecord, q.arb.change = some c ∧ c.number = p.arb.nextNumber ∧ c.block = b.number ∧ c.slot = slot ∧
        c.kind = kind ∧ c.isOpen = false ∧ c.jamStop = false ∧ c.waiting = [] ∧ c.added = 0) ∧
      q.arb.nextNumber = (p.arb.nextNumber + 1) % 65536 ∧ q.arb.requests = p.arb.requests ∧ q.maps = p.maps ∧
      q.lib = p.lib ∧ q.par = p.par ∧ q.ctl.slot = some slot ∧ q.ctl.change = none ∧ q.ctl.c = p.ctl.c ∧
      q.ctl.design = p.ctl.design ∧
      (∀ h, isHead h = true →
        (¬asked h → q.head h = p.head h) ∧
        (asked h → p.mapEntry h slot = none → (q.selector h).latched = none ∧ q.head h = p.head h) ∧
        ∀ n, asked h → p.mapEntry h slot = some n →
          ((p.thread h n).state ≠ .ready →
            (q.selector h).latched = none ∧
            q.head h =
              { p.head h with
                state := .parked (if (p.thread h n).state = .broken then .break_ else .operator) }) ∧
          ((p.thread h n).state = .ready →
            ((p.selector h).state = .jammed ∨ (p.selector h).state = .unsure →
              (q.selector h).latched = none ∧ q.head h = { p.head h with state := .parked .jam }) ∧
            ((p.selector h).state = .atNeedle n → (q.selector h).latched = some n ∧ q.head h = p.head h))) ∧
      (kind = .colour → p.par.continueAfterChange = false →
        q.ctl.state = .ready ∧ q.ctl.cause = .colour ∧ q.port.notices.stopped = true ∧
        q.cases.records = p.cases.records ∧ (∀ m ∈ q.cases.marks, m = none) ∧ q.plan.queue = [] ∧ q.plan.stop = .none) ∧
      (kind = .start ∨ p.par.continueAfterChange = true → p.lines.drvFlt = true →
        p.shaft.drive = .disabled ∨ p.shaft.drive = .holding →
        (∀ h k, isHead h = true → (q.head h).state ≠ .parked k) →
        q.ctl.state = .starting ∧ q.shaft.drive = .turning ∧ q.shaft.demand = q.plan.demand ∧ q.cases = p.cases)) ∧
  ∀ (p q : Part) (kind : ChangeKind) (b : Block) (slot : Nat), p.complete → p.par.headsFitted ≤ 20 →
    p.maps.held = none → p.par.autoStrobe = .off → (p.activeDesign.bind fun x => x.blockOf p.cur) = some b →
    q = p.enterChanging kind slot →
    ∀ asked : Nat → Prop,
      (∀ h, asked h ↔ 1 ≤ h ∧ h ≤ p.par.headsFitted ∧ (p.head h).state = .active ∧
        (p.selector h).skip ≠ some b.number) →
      (∃ h n, asked h ∧ p.mapEntry h slot = some n ∧
        ((p.changeRequest h).state.inFlight = true ∨
          ((p.thread h n).state = .ready ∧ ((p.selector h).state = .moving ∨
            ∃ k, (p.selector h).state = .atNeedle k ∧ k ≠ n)))) →
      q.ctl =
        { p.ctl with
          state := .changing, phase := none, origin := none, pending := none, change := some ⟨kind, slot⟩ } ∧
      q.lib = p.lib ∧ q.pos = p.pos ∧ q.shaft = p.shaft ∧ q.maps = p.maps ∧ q.par = p.par ∧
      q.cases = p.cases ∧ q.port = p.port ∧ q.arb.nextNumber = (p.arb.nextNumber + 1) % 65536 ∧
      ∃ c : ChangeRecord, q.arb.change = some c ∧ c.number = p.arb.nextNumber ∧ c.block = b.number ∧ c.slot = slot ∧
        c.kind = kind ∧ c.isOpen = true ∧ c.jamStop = false ∧
        ∀ h, isHead h = true →
          (¬asked h → q.head h = p.head h ∧ h ∉ c.waiting) ∧
          (asked h → p.mapEntry h slot = none →
            (q.selector h).latched = none ∧ q.head h = p.head h ∧ h ∉ c.waiting) ∧
          ∀ n, asked h → p.mapEntry h slot = some n →
            ((p.changeRequest h).state.inFlight = true →
              h ∈ c.waiting ∧ (q.selector h).latched = none ∧ q.head h = p.head h) ∧
            ((p.changeRequest h).state.inFlight = false →
              ((p.thread h n).state ≠ .ready →
                (q.selector h).latched = none ∧ h ∉ c.waiting ∧
                q.head h =
                  { p.head h with
                    state := .parked (if (p.thread h n).state = .broken then .break_ else .operator) }) ∧
              ((p.thread h n).state = .ready →
                ((p.selector h).state = .moving → h ∈ c.waiting ∧ (q.selector h).latched = none) ∧
                ((p.selector h).state = .jammed ∨ (p.selector h).state = .unsure →
                  (q.selector h).latched = none ∧ q.head h = { p.head h with state := .parked .jam }) ∧
                ((p.selector h).state = .atNeedle n →
                  (q.selector h).latched = some n ∧ (q.selector h).state = .atNeedle n ∧ q.head h = p.head h ∧
                  q.changeRequest h = p.changeRequest h) ∧
                ∀ k, (p.selector h).state = .atNeedle k → k ≠ n →
                  (q.selector h).latched = none ∧ q.head h = p.head h ∧ (q.changeRequest h).target = n ∧
                  (q.changeRequest h).origin = .demand ∧ (q.changeRequest h).changeNo = some p.arb.nextNumber ∧
                  ((q.changeRequest h).state = .pending ∨ (q.changeRequest h).state = .moving)))

/-- ARM (R90), STOP (R95, R202) and the STOP line (R96, R202), by controller state, and the START line that ARM arms for an owed
colour change (R89, R90): it enters CHANGING as StartBeginsSewing states. STOP of 0 and a line of count 0 slow the
machine down with a pending cause, a first one is kept; a count stop is ordered by R57 and its stop ordinal answered; a change, a
settling stop and the two middle phases of a repair take the pending cause; BACK and FWD end after the leg; the other travels
answer BUSY and are not acted on by the line. An ARM or a STOP that is done answers with the machine record, behind the stop ordinal
if one is chosen (the model's choice, log entry 49); a STOP reads N anew for it during a move (log entry 5). That ARM judges the
state before its flag is the model's order (log entry 14). -/
def Obligations.ArmAndStopByState : Prop :=
  ∀ s : State, s.awake → s.listens →
    ∀ (line p : Part) (done : Nat → Part → List Item → Prop),
    line = { s.part with lines := { s.part.lines with stop := false } } →
    (∀ n q x, done n q x ↔
      exec (.stop n) s = .next (s.answered q.observe 0x36 .done (x ++ q.observe.machineItems))) →
    (∀ on, (s.part.ctl.state = .ready ∨ s.part.ctl.state = .changing) →
      (on ≤ 1 →
        exec (.arm on) s =
          .next (s.answered { s.part with ctl := { s.part.ctl with armed := decide (on = 1) } } 0x35 .done
            ({ s.part with ctl := { s.part.ctl with armed := decide (on = 1) } } : Part).machineItems)) ∧
      (2 ≤ on → exec (.arm on) s = .next (s.answered s.part 0x35 .range []))) ∧
    (∀ on, s.part.ctl.state ≠ .ready → s.part.ctl.state ≠ .changing →
      exec (.arm on) s =
        .next (s.answered s.part 0x35 (if s.part.ctl.state = .locked then .locked else .state) [])) ∧
    (∀ b : Block, s.part.ctl.state = .ready → s.part.ctl.armed = true → s.part.changeDue = true →
      s.part.cur ≠ (s.part.activeDesign.map Design.total).getD 0 →
      (s.part.activeDesign.bind fun x => x.blockOf s.part.cur) = some b →
      exec .startLineFall s =
        .next (s.put (({ s.part with lines := { s.part.lines with start := false } } : Part).enterChanging .start b.slot))) ∧
    (∀ n, (s.part.ctl.state = .unready ∨ s.part.ctl.state = .ready) →
      done n s.part [] ∧ exec .stopLineFall s = .next (s.put line)) ∧
    ((s.part.ctl.state = .starting ∨ s.part.ctl.state = .running) →
      done 0
        { s.part with
          ctl := { s.part.ctl with
            state := .stopping, phase := some .slowing, pending := some (s.part.ctl.pending.getD .stop) } } [] ∧
      (s.part.par.stopLineCount = 0 →
        exec .stopLineFall s =
          .next (s.put
            { line with
              ctl := { s.part.ctl with
                state := .stopping, phase := some .slowing, pending := some (s.part.ctl.pending.getD .line) } })) ∧
      ∀ n, 0 < n →
        done n (s.part.countStop n .count).1 [.u 3 (s.part.countStop n .count).2] ∧
        (p = (line.countStop n .line).1 → s.part.par.stopLineCount = n → exec .stopLineFall s = .next (s.put p))) ∧
    (s.part.ctl.state = .stopping → s.part.ctl.phase ≠ some .settling →
      done 0 s.part [] ∧
      (s.part.par.stopLineCount = 0 → exec .stopLineFall s = .next (s.put line)) ∧
      ∀ n, 0 < n →
        done n (s.part.countStop n .count).1 [.u 3 (s.part.countStop n .count).2] ∧
        (p = (line.countStop n .line).1 → s.part.par.stopLineCount = n → exec .stopLineFall s = .next (s.put p))) ∧
    (∀ n, (s.part.ctl.state = .stopping ∧ s.part.ctl.phase = some .settling) ∨ s.part.ctl.state = .changing ∨
        (s.part.ctl.state = .repairing ∧
          ∃ r, s.part.ctl.repair = some r ∧ (r.phase = .prepare ∨ r.phase = .sewing)) →
      done n { s.part with ctl := { s.part.ctl with pending := some (s.part.ctl.pending.getD .stop) } } [] ∧
      exec .stopLineFall s =
        .next (s.put { line with ctl := { s.part.ctl with pending := some (s.part.ctl.pending.getD .line) } })) ∧
    (∀ n tr, s.part.ctl.state = .traversing → s.part.ctl.travel = some tr →
      ((tr.kind = .back ∨ tr.kind = .fwd) →
        p = { s.part with ctl := { s.part.ctl with travel := some { tr with stopAsked := true } } } →
        done n p [] ∧
        exec .stopLineFall s = .next (s.put { p with lines := line.lines })) ∧
      (tr.kind ≠ .back → tr.kind ≠ .fwd → tr.kind ≠ .jog →
        exec (.stop n) s = .next (s.answered s.part 0x36 .busy []) ∧ exec .stopLineFall s = .next (s.put line)) ∧
      (tr.kind = .jog →
        done n s.part.stopJog [] ∧
        (p = line.stopJog → exec .stopLineFall s = .next (s.put p)))) ∧
    (∀ n, s.part.ctl.state = .locked →
      exec (.stop n) s = .next (s.answered s.part 0x36 .locked []) ∧ exec .stopLineFall s = .next (s.put line)) ∧
    ∀ n r, s.part.ctl.state = .repairing → s.part.ctl.repair = some r → (r.phase = .outbound ∨ r.phase = .homebound) →
      exec (.stop n) s = .next (s.answered s.part 0x36 .busy []) ∧ exec .stopLineFall s = .next (s.put line)

/-- What a stop of a JOG (R38) and a count stop (R57) do. A stopped JOG ends between its start and its target: an axis not yet
decelerating goes on for as many pulses as its acceleration ramp has emitted, at most those left; a second stop changes nothing.
A count stop (R57) takes k, the revolutions the demand needs to come down to v_stop at slew, and the least ordinal s at c + n or
later whose last entry stands at place k + 1 of the queue or later, the ordinals beyond the tail counted at the places the fill
would give them. A held stop, or the design end, at or before s stands and is answered; else s is, PENDING beyond the queue's
entries, or PLACED: its last entry takes stop-after, v_stop as its cap and limit, the entries behind it go, the fill point and
the planning accumulator move to s + 1, and nothing else changes. Where N stands when the stop comes is free (log entry 5); the
stopping place is computed from it with the ramp of R35 (the model's reading, log entry 42), and shows as the target of the move
from then on (log entry 51). -/
def Obligations.StopOfAJogAndCountStop : Prop :=
  (∀ (p : Part) (m : Move) (stopAt : Int → Int → Int → Int), p.pos.move = some m → m.kind = .leg →
    m.interrupted = false →
    (∀ a b c, stopAt a b c =
      if (c - a).natAbs + min ((b - a).natAbs / 4) 1024 < (b - a).natAbs then
        if a ≤ b then c + (min (min (c - a).natAbs (min ((b - a).natAbs / 4) 1024)) ((b - a).natAbs - (c - a).natAbs) : Nat)
        else c - (min (min (c - a).natAbs (min ((b - a).natAbs / 4) 1024)) ((b - a).natAbs - (c - a).natAbs) : Nat)
      else b) →
    ∃ (n v : Vec) (f : Nat),
      p.stopJog =
        { p with
          free := f
          pos := { p.pos with
            n := n, move := some (if m.stopping then m else { m with target := v, goal := v, stopping := true }) } } ∧
      v = ⟨stopAt m.start.x m.target.x n.x, stopAt m.start.y m.target.y n.y⟩ ∧
      (p.pos.n.x ≤ n.x ∧ n.x ≤ m.goal.x ∨ m.goal.x ≤ n.x ∧ n.x ≤ p.pos.n.x) ∧
      (p.pos.n.y ≤ n.y ∧ n.y ≤ m.goal.y ∨ m.goal.y ≤ n.y ∧ n.y ≤ p.pos.n.y) ∧
      (m.start.x ≤ n.x ∧ n.x ≤ m.target.x ∨ m.target.x ≤ n.x ∧ n.x ≤ m.start.x →
        m.start.x ≤ v.x ∧ v.x ≤ m.target.x ∨ m.target.x ≤ v.x ∧ v.x ≤ m.start.x)) ∧
  ∀ (p : Part) (n : Nat) (g : StopOrigin) (q : Part) (o k x s t : Nat) (f : FillPoint) (at_ : Nat → Part) (point : Nat → FillPoint)
      (ends : Nat → Nat), p.countStop n g = (q, o) → p.plan.fill = some f →
    k = ceilDiv (p.plan.demand - p.par.vStop) p.par.slew →
    (at_ 0 = p ∧ point 0 = f ∧
      ∀ j sv, (at_ j).serve (point j).ordinal = some sv →
        at_ (j + 1) = ((at_ j).takeSplit (point j) sv).1 ∧ point (j + 1) = ⟨(point j).ordinal + 1, 1, none⟩ ∧
        ends j = (if j = 0 then p.plan.queue.length else ends (j - 1)) +
          (((at_ j).takeSplit (point j) sv).2.2 + (if (at_ j).hasTrim sv then 1 else 0) + 1 - (point j).index)) →
    ((∃ i e, p.plan.queue[i]? = some e ∧ k ≤ i ∧ p.isLastEntry e = true ∧ x = e.ordinal ∧
        ∀ j d, j < i → k ≤ j → p.plan.queue[j]? = some d → p.isLastEntry d = false) ∨
      (∀ i e, p.plan.queue[i]? = some e → k ≤ i → p.isLastEntry e = false) ∧
        ∃ j, x = f.ordinal + j ∧
          (∀ i, i < j → ((at_ i).serve (point i).ordinal).isSome = true ∧ ends i ≤ k) ∧
          ((at_ j).serve (point j).ordinal = none ∨ k + 1 ≤ ends j)) →
    s = max (p.ctl.c.getD 0 + n) x → t = (p.activeDesign.map Design.total).getD 0 - 1 →
    ∀ before : Nat → Prop,
    (∀ h, before h ↔ h ≤ s ∧ ((∃ trim w, p.plan.stop.held = some (h, trim, w)) ∨
      (h = t ∧ ∀ h' trim w, p.plan.stop.held = some (h', trim, w) → s < h'))) →
    (∀ h, before h → q = p ∧ o = h) ∧
      ((∀ h, ¬before h) → o = s ∧
        ((∀ e ∈ p.plan.queue, e.ordinal = s → p.isLastEntry e = false) →
          q = { p with plan := { p.plan with stop := .pending s false g } }) ∧
        ∀ pre e rest, p.plan.queue = pre ++ e :: rest → e.ordinal = s → p.isLastEntry e = true →
          (∀ d ∈ pre, d.ordinal = s → p.isLastEntry d = false) →
          q =
            { p with
              plan := { p.plan with
                queue := pre ++ [{ e with stopAfter := true, cap := .vStop, vLim := min e.vLim p.par.vStop }]
                fill := some ⟨s + 1, 1, none⟩, stop := .placed s false g }
              pos := { p.pos with plan := some (p.idealStanding (s + 1)) } })

/-- BACK, FWD (R101, R102) and REWIND (R103). The target of BACK and FWD is clamped to the current colour block; at c nothing moves and
DONE is answered; otherwise the first leg passes one ordinal, with P moved by its displacement. REWIND, after the design's end,
runs one leg to the origin, its DISCARD retiring the live cases of the design (R195), a DISCARD that is no flag being refused with
RANGE, before CASES and behind STATE (the model's choice of order, log entry 14). All three flush the planner, enter TRAVERSING and
keep design, c, slot, maps, heads and library. That P moves when the leg starts is the model's reading (log entry 22), and so is a
leg started even over no distance (log entry 21). -/
def Obligations.BackFwdRewindTravel : Prop :=
  (∀ (s : State) (n c : Nat) (pl : Placement), s.listens → s.part.ctl.c = some c → s.part.pos.placement = some pl →
    (∀ (i : Instr) (code t o : Nat) (kind : TravelKind) (b : Block) (sv : Served) (v : Vec), s.part.ctl.state = .ready →
      s.part.currentBlock = some b →
      ((i = .back n ∧ code = 0x37 ∧ kind = .back ∧ t = max (c - n) b.first ∧ o = c - 1) ∨
        (i = .fwd n ∧ code = 0x38 ∧ kind = .fwd ∧ t = min (c + n) (b.last + 1) ∧ o = c)) →
      (t = c → exec i s = .next (s.answered s.part code .done [.u 3 t])) ∧
      (t ≠ c → s.part.serve o = some sv →
        v = (if kind = .fwd then (s.part.pos.p.getD ⟨0, 0⟩).add (pl.ideal s.part.par sv.d)
          else (s.part.pos.p.getD ⟨0, 0⟩).sub (pl.ideal s.part.par sv.d)) →
        ∃ q : Part,
          exec i s = .next (s.answered q code .taken [.u 3 t]) ∧
          q.ctl =
            { s.part.ctl with state := .traversing, travel := some ⟨kind, .ordinal t, false, none⟩ } ∧
          q.pos.p = some v ∧ q.pos.n = s.part.pos.n ∧ q.pos.plan = none ∧
          q.pos.move = some
            { kind := .leg, start := s.part.pos.n, target := pl.committed v, goal := pl.committed v
              interrupted := false, stopping := false, rate := s.part.par.fTrav, searchX := .found
              searchY := .found } ∧
          q.pos.homed = s.part.pos.homed ∧ q.pos.placement = s.part.pos.placement ∧ q.plan.queue = [] ∧
          q.plan.stop = .none ∧ q.plan.demand = 0 ∧ q.lib = s.part.lib ∧ q.maps = s.part.maps ∧ q.heads = s.part.heads ∧
          q.arb = s.part.arb ∧ q.par = s.part.par ∧ q.cases.records = s.part.cases.records)) ∧
    (∀ disc, s.part.ctl.state = .ready →
      (s.part.ctl.cause = .designEnd ∨ c = (s.part.activeDesign.map Design.total).getD 0) → disc ≤ 1 →
      ∀ live : Prop, (live ↔ ∃ k, s.part.ctl.design = some k ∧ s.part.casesName k = true) →
      (live → disc = 0 → exec (.rewind disc) s = .next (s.answered s.part 0x39 .cases [])) ∧
      ((live → disc = 1) →
        ∃ q : Part,
          exec (.rewind disc) s = .next (s.answered q 0x39 .taken []) ∧
          q.ctl =
            { s.part.ctl with state := .traversing, travel := some ⟨.rewind, .frame pl.origin, false, none⟩ } ∧
          q.pos.p = some ⟨0, 0⟩ ∧ q.pos.n = s.part.pos.n ∧
          q.pos.move = some
            { kind := .leg, start := s.part.pos.n, target := pl.origin, goal := pl.origin, interrupted := false
              stopping := false, rate := s.part.par.fTrav, searchX := .found, searchY := .found } ∧
          q.plan.queue = [] ∧ q.lib = s.part.lib ∧ q.maps = s.part.maps ∧ q.heads = s.part.heads ∧ q.par = s.part.par ∧
          q.arb.requests = s.part.arb.requests ∧
          q.cases.records =
            (s.part.cases.records.map fun r =>
              r.filter fun x => !(decide (disc = 1 ∧ s.part.ctl.design = some x.design) && x.state.isLive)))) ∧
    (∀ disc, s.part.ctl.state = .ready →
      (s.part.ctl.cause = .designEnd ∨ c = (s.part.activeDesign.map Design.total).getD 0) → 2 ≤ disc →
      exec (.rewind disc) s = .next (s.answered s.part 0x39 .range [])) ∧
    (∀ disc, s.part.ctl.state = .ready → s.part.ctl.cause ≠ .designEnd →
      c ≠ (s.part.activeDesign.map Design.total).getD 0 →
      exec (.rewind disc) s = .next (s.answered s.part 0x39 .state []))) ∧
  ∀ (s : State) (n disc : Nat) (st : Status), s.listens → s.part.ctl.state ≠ .ready →
    st = (match s.part.ctl.state with
      | .traversing => Status.busy
      | .locked => Status.locked
      | _ => Status.state) →
    exec (.back n) s = .next (s.answered s.part 0x37 st []) ∧
    exec (.fwd n) s = .next (s.answered s.part 0x38 st []) ∧
    exec (.rewind disc) s = .next (s.answered s.part 0x39 st [])

/-- CLEAR (R40, R106) and RESTART (R41, R108, R149, R184, R215). CLEAR outside LOCKED is refused with STATE and with ESTOP low with
LOCKED; without an interrupted move or a repair it ends the lock at once, in READY with cause CLEARED or in UNREADY; with one it
completes the move, or searches home again; with a repair it completes the move of OUTBOUND or HOMEBOUND, or brings the frame to
the return ordinal. The leg done, a CLEAR in OUTBOUND goes on to the return ordinal, any other ends, a case still REPAIRING being
settled (R203), c moved by the step of a locked BACK, FWD or REWIND. RESTART makes the controller UNREADY, or LOCKED with ESTOP
low, with nothing planned, moving, active or asked of a selector, and keeps maps, parameters, thread records and the hoop. It sends a
commit frame with the hold flag, every missing count is 0 and the expectations stay (R82); an OPEN case is closed at c and a
REPAIRING one settled (R192, R203), the restore marks go (R193). Both
keep v_set (R64, log entry 23), and the travel's target is that of the leg in progress. The model's readings and choices: the
machine record in the DONE of CLEAR (log entry 49), the phase HOMEBOUND on the second leg (log entry 62), P moved when a leg starts
(log entry 22), the locked-from record of a RESTART with ESTOP low (log entry 11) and its absence at the end of a CLEAR (log entry
53). -/
def Obligations.ClearAndRestart : Prop :=
  (∀ s : State, s.listens →
    (s.part.ctl.state ≠ .locked → exec .clear s = .next (s.answered s.part 0x3A .state [])) ∧
    (s.part.ctl.state = .locked → s.part.lines.estop = false →
      exec .clear s = .next (s.answered s.part 0x3A .locked [])) ∧
    (s.part.ctl.state = .locked → s.part.lines.estop = true → s.part.pos.move = none → s.part.ctl.repair = none →
      ∃ q : Part,
        exec .clear s = .next (s.answered q 0x3A .done q.machineItems) ∧
        q.ctl =
          { s.part.ctl with
            state := if s.part.ctl.design.isSome then .ready else .unready
            cause := if s.part.ctl.design.isSome then .cleared else .none
            lockCause := none, lockedFrom := none, phase := none, origin := none, pending := none, change := none
            travel := none, repair := none } ∧
        q.port.notices = { s.part.port.notices with cleared := true } ∧ q.shaft.lastFault = .none ∧
        q.plan.vSet = s.part.plan.vSet ∧ q.plan.requested = s.part.plan.requested ∧
        q.pos = { s.part.pos with plan := none } ∧ q.lib = s.part.lib ∧ q.maps = s.part.maps ∧
        q.heads = s.part.heads ∧ q.arb = s.part.arb ∧ q.par = s.part.par ∧ q.cases.records = s.part.cases.records) ∧
    (∀ m, s.part.ctl.state = .locked → s.part.lines.estop = true → s.part.pos.move = some m →
      s.part.ctl.repair = none →
      ∃ (q : Part) (v : Vec) (m' : Move),
        exec .clear s = .next (s.answered q 0x3A .taken []) ∧
        q.ctl =
          { s.part.ctl with state := .traversing, travel := some ⟨.clear, .frame v, false, none⟩ } ∧
        q.plan.vSet = s.part.plan.vSet ∧ q.shaft.lastFault = .none ∧ q.pos.move = some m' ∧ m'.interrupted = false ∧
        q.pos.n = s.part.pos.n ∧
        (m.kind ≠ .homeSearch → m'.kind = .leg ∧ m'.start = s.part.pos.n ∧ m'.target = m.target ∧ v = m.target ∧
          q.pos.homed = s.part.pos.homed) ∧
        (m.kind = .homeSearch → m'.kind = .homeSearch ∧ q.pos.homed = false) ∧
        q.lib = s.part.lib ∧ q.maps = s.part.maps ∧ q.heads = s.part.heads ∧ q.arb = s.part.arb ∧ q.par = s.part.par) ∧
    (∀ (r : Repair) (pl : Placement), s.part.ctl.state = .locked → s.part.lines.estop = true →
      s.part.ctl.repair = some r → s.part.pos.placement = some pl →
      (∀ m, s.part.pos.move = some m → m.kind ≠ .homeSearch) →
      ∃ (q : Part) (m' : Move),
        exec .clear s = .next (s.answered q 0x3A .taken []) ∧
        q.ctl =
          { s.part.ctl with state := .traversing, travel := some ⟨.clear, .frame m'.target, false, none⟩ } ∧
        q.plan.vSet = s.part.plan.vSet ∧ q.shaft.lastFault = .none ∧ q.pos.n = s.part.pos.n ∧
        q.pos.homed = s.part.pos.homed ∧
        q.pos.move = some m' ∧ m'.kind = .leg ∧ m'.interrupted = false ∧ m'.start = s.part.pos.n ∧
        (∀ m, (r.phase = .outbound ∨ r.phase = .homebound) → s.part.pos.move = some m →
          m'.target = m.target ∧ q.pos.p = s.part.pos.p) ∧
        (r.phase = .prepare ∨ r.phase = .sewing ∨ s.part.pos.move = none →
          m'.target = pl.committed (s.part.idealStanding r.ret) ∧
          q.pos.p = some (s.part.idealStanding r.ret)) ∧
        q.lib = s.part.lib ∧ q.maps = s.part.maps ∧ q.heads = s.part.heads ∧ q.arb = s.part.arb ∧
        q.par = s.part.par ∧ q.cases.records = s.part.cases.records) ∧
    ∃ q : Part,
      exec .restart s = .next (s.answered q 0x3C .done q.machineItems) ∧
      q.ctl =
        { state := if s.part.lines.estop then .unready else .locked, phase := none, cause := .none, pending := none
          origin := none, lockCause := if s.part.lines.estop then none else some .estop
          lockedFrom := if s.part.lines.estop then none else some ⟨.unready, none, none⟩
          design := none, c := none, slot := none, change := none, armed := false, travel := none, repair := none } ∧
      q.plan.queue = [] ∧ q.plan.fill = none ∧ q.plan.stop = .none ∧ q.plan.demand = 0 ∧
      q.plan.requested = s.part.plan.requested ∧ q.plan.vSet = s.part.plan.vSet ∧ q.shaft.drive = .disabled ∧
      q.pos.placement = none ∧ q.pos.p = none ∧ q.pos.plan = none ∧ q.pos.move = none ∧ q.pos.busy = false ∧
      q.pos.hoop = s.part.pos.hoop ∧ q.pos.homed = (s.part.pos.homed && s.part.pos.move.isNone) ∧
      (s.part.lib.designs.length = 16 → s.part.lib.sealer = none → ∀ k, k < 16 →
        q.lib.design k =
          { s.part.lib.design k with
            state := if s.part.ctl.design = some k then .sealed else (s.part.lib.design k).state }) ∧
      (∀ d, s.part.lib.sealer = some d → d < s.part.lib.designs.length → q.lib.sealer = none ∧
        (q.lib.design d).state = .loading ∧ (q.lib.design d).result = .abandoned) ∧
      (∀ x ∈ q.arb.requests, x = ChangeRequest.reset) ∧ (∀ x ∈ q.arb.slots, x = none) ∧
      (∀ x ∈ q.arb.selectors, x.skip = none ∧ x.state ≠ .moving ∨ 20 < s.part.arb.selectors.length) ∧
      q.heads =
        (s.part.heads.map fun r =>
          { r with
            state := match r.state with
              | .parked _ => .active
              | st => st
            latches := ⟨false, false, false, false, false⟩, lastBreak := none }) ∧
      q.mon.threads = s.part.mon.threads ∧ q.mon.schedule = s.part.mon.schedule ∧ q.maps = s.part.maps ∧
      q.par = s.part.par ∧ q.port.ready = s.part.port.ready ∧
      (s.part.ctl.repair = none → (∀ h, s.part.openCaseOf h = none) →
        q.cases.records = s.part.cases.records ∧ q.port.notices = s.part.port.notices) ∧
      (∀ m ∈ q.cases.marks, m = none) ∧
      (s.part.complete →
        q.chain.out = s.part.chain.out ++ [.hold s.part.chain.seq .commit true] ∧ q.chain.seq = s.part.chain.seq ∧
        (∀ x, s.part.chain.exchange = some x → q.chain.exchange = if x.kind = .sewing then none else some x) ∧
        (∀ h, isHead h = true →
          (q.link h).missing = 0 ∧ (q.link h).sent = none ∧ (q.link h).recorded.down = false ∧
          (q.link h).recorded.ordinal = (s.part.link h).sent.bind Command.ordinal ∧
          (q.link h).expected = (s.part.link h).expected ∧ (q.link h).opened = (s.part.link h).opened) ∧
        (∀ j y, s.part.caseAt j = some y → (y.state = .closed ∨ y.state = .mended) → s.part.openCaseOf y.head = none →
          q.caseAt j = some y) ∧
        (∀ k x c last, k < 40 → s.part.caseAt k = some x → x.state = .isOpen → isHead x.head = true →
          s.part.ctl.c = some c → (∀ j y, j ≠ k → s.part.caseAt j = some y → y.head ≠ x.head) →
          (∀ g, x.floor = some g → last = max ((c : Int) - 1) g) → (x.floor = none → last = (c : Int) - 1) →
          q.port.notices.case = true ∧
          q.caseAt k =
            (if last < x.first then none
            else some { x with state := .closed, last := some last.toNat, floor := none })) ∧
        ∀ r x f, s.part.ctl.repair = some r → r.caseNo < 40 → s.part.caseAt r.caseNo = some x → x.state = .repairing →
          f = min (x.progress.getD x.first) (r.breakOrdinal.getD (x.progress.getD x.first)) →
          q.port.notices.case = true ∧
          q.caseAt r.caseNo = some
            (if ∃ l, x.last = some l ∧ f ≤ l then { x with state := .closed, first := f, progress := none }
            else { x with state := .mended, progress := none }))) ∧
  ∀ (s : State) (m : Move) (tr : Travel), s.awake → s.part.complete → s.part.pos.move = some m → m.kind = .leg →
    m.interrupted = false → s.part.ctl.state = .traversing → s.part.ctl.travel = some tr → tr.kind = .clear →
    ∃ t : State, exec .traverseLegComplete s = .next t ∧ t.part.pos.n = m.target ∧
      t.part.plan.vSet = s.part.plan.vSet ∧ t.part.lib = s.part.lib ∧
      t.part.maps = s.part.maps ∧ t.part.heads = s.part.heads ∧ t.part.arb = s.part.arb ∧ t.part.par = s.part.par ∧
      (∀ (r : Repair) (pl : Placement), s.part.ctl.repair = some r → r.phase = .outbound →
        s.part.pos.placement = some pl →
        t.part.ctl =
          { s.part.ctl with
            repair := some { r with phase := .homebound }
            travel := some ⟨.clear, .frame (pl.committed (s.part.idealStanding r.ret)), false, none⟩ } ∧
        t.part.cases = s.part.cases ∧ t.part.pos.p = some (s.part.idealStanding r.ret) ∧
        t.part.pos.move = some
          { kind := .leg, start := m.target, target := pl.committed (s.part.idealStanding r.ret)
            goal := pl.committed (s.part.idealStanding r.ret), interrupted := false, stopping := false
            rate := s.part.par.fTrav, searchX := .found, searchY := .found }) ∧
      (s.part.ctl.repair = none ∨ (∃ r, s.part.ctl.repair = some r ∧ r.phase ≠ .outbound) →
        ∃ c : Option Nat,
          t.part.ctl =
            { s.part.ctl with
              state := if s.part.ctl.design.isSome then .ready else .unready
              cause := if s.part.ctl.design.isSome then .cleared else .none
              c := c, lockCause := none, lockedFrom := none, phase := none, origin := none, pending := none
              change := none, travel := none, repair := none } ∧
          t.part.pos.move = none ∧ t.part.port.notices.cleared = true ∧
          (∀ r, s.part.ctl.repair = some r → c = s.part.ctl.c ∧
            ((∀ x, s.part.caseAt r.caseNo = some x → x.state ≠ .repairing) →
              t.part.cases.records = s.part.cases.records) ∧
            ∀ x f, r.caseNo < 40 → s.part.caseAt r.caseNo = some x → x.state = .repairing →
              f = min (x.progress.getD x.first) (r.breakOrdinal.getD (x.progress.getD x.first)) →
              t.part.caseAt r.caseNo = some
                (if ∃ l, x.last = some l ∧ f ≤ l then { x with state := .closed, first := f, progress := none }
                else { x with state := .mended, progress := none })) ∧
          (s.part.ctl.repair = none → t.part.cases.records = s.part.cases.records ∧
            ∀ k, k = (s.part.ctl.lockedFrom.bind LockedFrom.travel).map Travel.kind →
              c = (if k = some .back then some (s.part.cur - 1)
                else if k = some .fwd then some (s.part.cur + 1)
                else if k = some .rewind then some 0
                else s.part.ctl.c)))

/-- REPAIR (R107, R196, R197): in READY, for a CLOSED case of the active design whose head is ACTIVE without a request in flight, the
case is REPAIRING from its first ordinal, the context names case, head and return ordinal, the stop cause is NONE, the planner is
flushed and one leg runs to position(first − 1); every other head's DOWN already sent is revised. The refusals follow the order of
R196. OUTBOUND done, a pending cause, or a head without a fit needle, ends the run with the case CLOSED as it was; a head at its
mapped, READY needle goes into SEWING from the case's first ordinal, the fill beginning with a stop PENDING at the case's last
ordinal, with a trim and origin REPAIR (R199; LookAheadBindsTheQueue); another needle is asked for by a DEMAND request. A request
that fails in PREPARE ends the run with FAULT, a head without a needle with STOP (log entry 33). The needle-up report that ends
SEWING settles the case, MENDED or CLOSED from where it got to. HOMEBOUND done, the controller is READY with the end cause, or a
pending one (R197 to R202). That P moves when a leg starts is the model's reading (log entry 22), the case record in the TAKEN its
choice (log entry 49). -/
def Obligations.RepairTakenGoesOutbound : Prop :=
  (∀ (s : State) (k : Nat), s.listens →
    (∀ (r : Case) (pl : Placement) (v : Vec), s.part.ctl.state = .ready → k < 40 → s.part.complete →
      s.part.caseAt k = some r → r.state = .closed → s.part.ctl.design = some r.design →
      (s.part.head r.head).state = .active → (s.part.changeRequest r.head).state.inFlight = false →
      s.part.pos.placement = some pl → v = s.part.idealStanding r.first → pl.committed v ≠ s.part.pos.n →
      ∃ q : Part,
        exec (.repair k) s = .next (s.answered q 0x3B .taken (q.caseItems k)) ∧
        q.caseAt k = some { r with state := .repairing, progress := some r.first } ∧
        (∀ j, j ≠ k → q.caseAt j = s.part.caseAt j) ∧
        q.ctl =
          { s.part.ctl with
            state := .repairing, cause := .none
            repair := some
              { caseNo := k, head := r.head, ret := s.part.cur, phase := .outbound, target := none
                breakOrdinal := none, endCause := none, stopReached := false } } ∧
        q.pos.p = some v ∧ q.pos.n = s.part.pos.n ∧
        q.pos.move = some
          { kind := .leg, start := s.part.pos.n, target := pl.committed v, goal := pl.committed v
            interrupted := false, stopping := false, rate := s.part.par.fTrav, searchX := .found, searchY := .found } ∧
        q.plan.queue = [] ∧ q.plan.stop = .none ∧ q.plan.demand = 0 ∧
        (∀ h c, isHead h = true → h ≠ r.head → (q.link h).sent = some c → c.down = false) ∧
        q.lib = s.part.lib ∧ q.maps = s.part.maps ∧ q.heads = s.part.heads ∧ q.arb = s.part.arb ∧ q.par = s.part.par ∧
        q.port.notices = s.part.port.notices) ∧
    (s.part.ctl.state = .ready →
      (40 ≤ k → exec (.repair k) s = .next (s.answered s.part 0x3B .range [])) ∧
      (k < 40 → s.part.caseAt k = none → exec (.repair k) s = .next (s.answered s.part 0x3B .noRecord [])) ∧
      (∀ r, k < 40 → s.part.caseAt k = some r →
        (r.state ≠ .closed ∨ s.part.ctl.design ≠ some r.design ∨ (s.part.head r.head).state ≠ .active →
          ∃ items, exec (.repair k) s = .next (s.answered s.part 0x3B .state items)) ∧
        (r.state = .closed → s.part.ctl.design = some r.design → (s.part.head r.head).state = .active →
          (s.part.changeRequest r.head).state.inFlight = true →
          ∃ items, exec (.repair k) s = .next (s.answered s.part 0x3B .busy items)))) ∧
    ∀ st : Status, s.part.ctl.state ≠ .ready →
      st = (match s.part.ctl.state with
        | .traversing => Status.busy
        | .locked => Status.locked
        | _ => Status.state) →
      ∃ items, exec (.repair k) s = .next (s.answered s.part 0x3B st items)) ∧
  ∀ (s : State) (r : Repair) (x : Case) (pl : Placement) (home : Vec → Cause → State → Prop) (planned : State → Prop),
    s.awake → s.part.complete →
    s.part.ctl.state = .repairing → s.part.ctl.repair = some r → isHead r.head = true → r.caseNo < 40 →
    s.part.caseAt r.caseNo = some x → s.part.pos.placement = some pl →
    (∀ v cause t, home v cause t ↔
      t.part.ctl.state = .repairing ∧
      t.part.ctl.repair = some { r with phase := .homebound, endCause := some cause } ∧ t.part.pos.n = v ∧
      t.part.pos.p = some (s.part.idealStanding r.ret) ∧
      t.part.pos.move = some
        { kind := .leg, start := v, target := pl.committed (s.part.idealStanding r.ret)
          goal := pl.committed (s.part.idealStanding r.ret), interrupted := false, stopping := false
          rate := s.part.par.fTrav, searchX := .found, searchY := .found }) →
    (∀ t, planned t ↔ ∃ y : Part,
      y.plan.queue = [] ∧ y.plan.fill = some ⟨x.first, 1, none⟩ ∧
      y.plan.stop = .pending (x.last.getD x.first) true .repair ∧ y.pos.plan = none ∧ y.pos.p = s.part.pos.p ∧
      y.ctl = t.part.ctl ∧ y.lib = t.part.lib ∧ y.par = t.part.par ∧
      { y.pos with plan := t.part.pos.plan } = t.part.pos ∧
      t.part.plan.queue = lookAhead y.par y.fillQueue.plan.queue ∧ t.part.plan.stop = y.fillQueue.plan.stop ∧
      t.part.plan.fill = y.fillQueue.plan.fill ∧ t.part.pos.plan = y.fillQueue.pos.plan) →
    (∀ m, s.part.pos.move = some m → m.kind = .leg → m.interrupted = false →
      (r.phase = .outbound →
        ∃ t : State, exec .traverseLegComplete s = .next t ∧ t.part.lib = s.part.lib ∧ t.part.maps = s.part.maps ∧
          t.part.heads = s.part.heads ∧ t.part.par = s.part.par ∧
          ∀ unsewn : Cause → Prop,
            (∀ cause, unsewn cause ↔ home m.target cause t ∧ t.part.port.notices.case = true ∧
              t.part.caseAt r.caseNo = some { x with state := .closed, progress := none }) →
            (∀ k, s.part.ctl.pending = some k → unsewn k.cause) ∧
            (s.part.ctl.pending = none → (s.part.head r.head).state = .active →
              (s.part.mapEntry r.head x.slot = none → unsewn .stop) ∧
              ∀ n, s.part.mapEntry r.head x.slot = some n →
                ((s.part.thread r.head n).state ≠ .ready ∨
                    (∀ k, (s.part.selector r.head).state ≠ .atNeedle k) → unsewn .fault) ∧
                ((s.part.thread r.head n).state = .ready → (s.part.selector r.head).state = .atNeedle n →
                  (t.part.selector r.head).latched = some n ∧ t.part.caseAt r.caseNo = some x ∧
                  t.part.pos.n = m.target ∧
                  (s.part.lines.drvFlt = true →
                    (s.part.shaft.drive = .disabled ∨ s.part.shaft.drive = .holding → t.part.shaft.drive = .turning) ∧
                    t.part.ctl.state = .repairing ∧
                    t.part.ctl.repair = some { r with phase := .sewing, target := some n, stopReached := false } ∧
                    t.part.pos.move = none ∧ planned t ∧
                    ∀ sv, s.part.serve x.first = some sv →
                      ∃ e rest, t.part.plan.queue = e :: rest ∧ e.ordinal = x.first ∧ e.index = 1 ∧
                        t.part.plan.demand = min e.vAllow s.part.par.vMin)) ∧
                ∀ k, (s.part.thread r.head n).state = .ready → (s.part.selector r.head).state = .atNeedle k → k ≠ n →
                  (s.part.changeRequest r.head).state.inFlight = false →
                  t.part.ctl = { s.part.ctl with repair := some { r with phase := .prepare } } ∧
                  (t.part.selector r.head).latched = none ∧ (t.part.changeRequest r.head).target = n ∧
                  (t.part.changeRequest r.head).origin = .demand ∧
                  (t.part.changeRequest r.head).changeNo = none ∧
                  ((t.part.changeRequest r.head).state = .pending ∨
                    (t.part.changeRequest r.head).state = .moving) ∧
                  t.part.pos.n = m.target ∧ t.part.pos.move = none ∧ t.part.caseAt r.caseNo = some x)) ∧
      (r.phase = .homebound →
        ∃ t : State, exec .traverseLegComplete s = .next t ∧
          t.part.ctl =
            { s.part.ctl with
              state := .ready
              cause := (s.part.ctl.pending.map Pending.cause).getD (r.endCause.getD .repairDone)
              phase := none, origin := none, pending := none, change := none, travel := none, repair := none } ∧
          t.part.pos.n = m.target ∧ t.part.pos.move = none ∧ t.part.port.notices.stopped = true ∧
          t.part.cases.records = s.part.cases.records ∧ t.part.lib = s.part.lib ∧ t.part.maps = s.part.maps ∧
          t.part.heads = s.part.heads ∧ t.part.arb = s.part.arb ∧ t.part.par = s.part.par)) ∧
    (r.phase = .prepare → s.part.ctl.pending = none → (s.part.changeRequest r.head).state = .moving →
      (s.part.changeRequest r.head).origin = .demand →
      ∃ t : State, exec (.selectorDeadlineExpiry r.head) s = .next t ∧ home s.part.pos.n .fault t ∧
        t.part.caseAt r.caseNo = some { x with state := .closed, progress := none } ∧
        (t.part.changeRequest r.head).state = .failed .jam ∧ (t.part.selector r.head).state = .jammed) ∧
    (∀ (y : Exchange) (f : List Byte) (rep : Report) (n : Nat), r.phase = .prepare →
      s.part.chain.exchange = some y → y.kind = .idle → y.slot = r.head → r.head < y.fitted →
      parseReport f = some rep → rep.seq = s.part.chain.seq → rep.detent = some n → rep.moving = false →
      rep.button = false → (s.part.selector r.head).state = .moving →
      (s.part.changeRequest r.head).state = .moving → (s.part.changeRequest r.head).target = n →
      (s.part.changeRequest r.head).origin = .demand → (s.part.changeRequest r.head).cancelAsked = false →
      ∃ t : State, exec (.headReport f) s = .next t ∧ (t.part.changeRequest r.head).state = .done ∧
        (t.part.changeRequest r.head).occurred = true ∧ (t.part.selector r.head).state = .atNeedle n ∧
        (t.part.selector r.head).latched = some n ∧ t.part.heads = s.part.heads ∧ t.part.lib = s.part.lib ∧
        t.part.maps = s.part.maps ∧ t.part.par = s.part.par ∧
        (∀ cause,
          (∃ k, s.part.ctl.pending = some k ∧ cause = k.cause) ∨
            (s.part.ctl.pending = none ∧ (s.part.head r.head).state ≠ .active ∧ cause = .fault) →
          home s.part.pos.n cause t ∧ t.part.port.notices.case = true ∧
          t.part.caseAt r.caseNo = some { x with state := .closed, progress := none }) ∧
        (s.part.ctl.pending = none → (s.part.head r.head).state = .active → s.part.lines.drvFlt = true →
          t.part.ctl =
            { s.part.ctl with repair := some { r with phase := .sewing, target := some n, stopReached := false } } ∧
          t.part.caseAt r.caseNo = some x ∧ t.part.pos.n = s.part.pos.n ∧ planned t ∧
          (s.part.shaft.drive = .disabled ∨ s.part.shaft.drive = .holding → t.part.shaft.drive = .turning) ∧
          ∀ sv, s.part.serve x.first = some sv →
            ∃ e rest, t.part.plan.queue = e :: rest ∧ e.ordinal = x.first ∧ e.index = 1 ∧
              t.part.plan.demand = min e.vAllow s.part.par.vMin)) ∧
    (r.phase = .sewing → r.stopReached = true → s.part.shaft.drive = .positioning → s.part.shaft.standing = true →
      s.part.shaft.synced = true → (1008 ≤ s.part.shaft.angle ∨ s.part.shaft.angle ≤ 16) →
      ∀ f, f = min (x.progress.getD x.first) (r.breakOrdinal.getD (x.progress.getD x.first)) →
      ∃ t : State, exec .positioningComplete s = .next t ∧
        home s.part.pos.n ((s.part.ctl.pending.map Pending.cause).getD .repairDone) t ∧
        t.part.caseAt r.caseNo = some
          (if ∃ l, x.last = some l ∧ f ≤ l then { x with state := .closed, first := f, progress := none }
          else { x with state := .mended, progress := none }) ∧
        t.part.port.notices.case = true ∧ t.part.ctl.armed = (s.part.ctl.armed && s.part.par.startRepeat) ∧
        t.part.shaft.drive = (if s.part.shaft.runWaiting then .turning else .holding) ∧
        t.part.heads = s.part.heads ∧ t.part.lib = s.part.lib ∧ t.part.maps = s.part.maps ∧ t.part.arb = s.part.arb)

/-! ## Lookups -/

/-- The lookups of planner, shaft monitor, head chain, maps, selectors, sensing, heads, cases, schedule and parameters (R63, R73,
R83, R127, R150, R156, R167, R183, R194, R212): answered DONE in every controller state with the record as it stands, changing
nothing but the held response; a head outside 1 to 20, a case outside 0 to 39, a map or unit outside its range is refused with
RANGE, a free case record with NO_RECORD. LOOKUP FRAME reads N anew during a move (R42, log entry 5); that LOOKUP MAP sends the 24
entries without a count is log entry 15. -/
def Obligations.LookupsChangeNothing : Prop :=
  ∀ s : State, s.listens →
    (∃ (n : Vec) (f : Nat) (p : Part),
      p = { s.part with pos := { s.part.pos with n := n }, free := f } ∧ (s.part.moving = false → p = s.part) ∧
      exec .lookupFrame s = .next (s.answered p 0x24 .done p.frameItems)) ∧
    exec .lookupPlan s = .next (s.answered s.part 0x40 .done s.part.plan.items) ∧
    exec .lookupShaft s = .next (s.answered s.part 0x41 .done s.part.shaftItems) ∧
    exec .lookupChain s = .next (s.answered s.part 0x42 .done s.part.chainItems) ∧
    exec .lookupMaps s = .next (s.answered s.part 0x55 .done s.part.mapsItems) ∧
    exec .lookupSelectors s = .next (s.answered s.part 0x62 .done s.part.selectorsItems) ∧
    exec .lookupSchedule s = .next (s.answered s.part 0x77 .done s.part.scheduleItems) ∧
    exec .lookupHeads s =
      .next (s.answered s.part 0x86 .done
        (.u 1 s.part.par.headsFitted :: (List.range s.part.par.headsFitted).flatMap fun i => s.part.headItems (i + 1))) ∧
    exec .lookupCases s = .next (s.answered s.part 0x92 .done s.part.casesItems) ∧
    exec .lookupParameters s = .next (s.answered s.part 0xA1 .done s.part.par.items) ∧
    (∀ h, 1 ≤ h → h ≤ 20 →
      exec (.lookupSensing h) s = .next (s.answered s.part 0x78 .done (s.part.sensingItems h)) ∧
      exec (.lookupHead h) s = .next (s.answered s.part 0x85 .done (s.part.headItems h))) ∧
    (∀ h, h = 0 ∨ 20 < h →
      exec (.lookupSensing h) s = .next (s.answered s.part 0x78 .range []) ∧
      exec (.lookupHead h) s = .next (s.answered s.part 0x85 .range [])) ∧
    (∀ k, k < 40 →
      (∀ r, s.part.caseAt k = some r → exec (.lookupCase k) s = .next (s.answered s.part 0x91 .done (r.items k))) ∧
      (s.part.caseAt k = none → exec (.lookupCase k) s = .next (s.answered s.part 0x91 .noRecord []))) ∧
    (∀ k, 40 ≤ k → exec (.lookupCase k) s = .next (s.answered s.part 0x91 .range [])) ∧
    ∀ map unit units : Nat, (s.part.maps.mode = .head ∧ units = 20) ∨ (s.part.maps.mode = .bank ∧ units = 4) →
      (1 ≤ unit → unit ≤ units → ∀ m, (map = 0 ∧ m = s.part.maps.active) ∨ (map = 1 ∧ m = s.part.maps.a) ∨
          (map = 2 ∧ m = s.part.maps.b) →
        exec (.lookupMap map unit) s = .next (s.answered s.part 0x54 .done ((nth1 m [] unit).flatMap (itemOpt 1)))) ∧
      (2 < map ∨ unit = 0 ∨ units < unit → exec (.lookupMap map unit) s = .next (s.answered s.part 0x54 .range []))

/-! ## Needle maps -/

/-- AMEND MAP, AMEND MAP MODE and AUTOMAP (R113 to R115, R120, R123 to R126). AMEND MAP writes its pairs into the named unit, or
into every unit with ALL, and leaves every other entry; a staged map is loaded, the active map EDITED and a held strobe discarded;
in CHANGING the active map is BUSY. The other mode gives the default and absent maps. AUTOMAP gives each slot with a colour the
lowest needle that carries it, READY, on every fitted and enabled head of the unit, and answers the numbers of entries resolved and
unresolved with the first slot unresolved. That unit 0 means ALL is the model's reading of the frame (log entry 15); that a refused
AUTOMAP carries the record of the design it names, and a refused AMEND MAP the unit it names, is log entry 49; RANGE before BUSY
and before STATE is the model's order (log entry 14). -/
def Obligations.MapsAmendedAndBuilt : Prop :=
  ∀ s : State, s.listens →
    ∀ units : Nat, (s.part.maps.mode = .head ∧ units = 20) ∨ (s.part.maps.mode = .bank ∧ units = 4) →
    (∀ (map unit : Nat) (pairs : List MapPair) (old : NeedleMap), unit ≤ units → 1 ≤ pairs.length → pairs.length ≤ 24 →
      (∀ e ∈ pairs, (1 ≤ e.slot ∧ e.slot ≤ 24) ∧
        ((e.needle.pres = 0 ∧ e.needle.val = 0) ∨
          (e.needle.pres = 1 ∧ 1 ≤ e.needle.val ∧ e.needle.val ≤ 15))) →
      (pairs.map MapPair.slot).Nodup →
      (map = 0 ∧ old = s.part.maps.active) ∨ (map = 1 ∧ old = s.part.maps.a) ∨ (map = 2 ∧ old = s.part.maps.b) →
      old.length = units → (∀ row ∈ old, row.length = 24) →
      (map = 0 → s.part.ctl.state = .changing →
        ∃ items, exec (.amendMap map unit pairs) s = .next (s.answered s.part 0x50 .busy items)) ∧
      (¬(map = 0 ∧ s.part.ctl.state = .changing) →
        ∃ (m : Maps) (new : NeedleMap),
          exec (.amendMap map unit pairs) s =
            .next (s.answered { s.part with maps := m } 0x50 .done
              ((nth1 new [] (if unit = 0 then 1 else unit)).flatMap (itemOpt 1))) ∧
          (∀ u slot, 1 ≤ u → u ≤ units → 1 ≤ slot → slot ≤ 24 →
            new.entry u slot =
              if unit = 0 ∨ u = unit then
                match pairs.find? fun e => decide (e.slot = slot) with
                | some e => if e.needle.pres = 1 then some e.needle.val else none
                | none => old.entry u slot
              else old.entry u slot) ∧
          new.length = units ∧ m.mode = s.part.maps.mode ∧
          (map = 0 → m.active = new ∧ m.origin = .edited ∧ m.held = none ∧ m.a = s.part.maps.a ∧ m.b = s.part.maps.b ∧
            m.loadedA = s.part.maps.loadedA ∧ m.loadedB = s.part.maps.loadedB) ∧
          (map = 1 → m = { s.part.maps with a := new, loadedA := true }) ∧
          (map = 2 → m = { s.part.maps with b := new, loadedB := true }))) ∧
    (∀ (map unit : Nat) (pairs : List MapPair),
      (2 < map ∨ units < unit ∨ pairs = [] ∨ 24 < pairs.length ∨ ¬(pairs.map MapPair.slot).Nodup ∨
        ∃ e ∈ pairs, e.slot = 0 ∨ 24 < e.slot ∨ 1 < e.needle.pres ∨
          (e.needle.pres = 0 ∧ e.needle.val ≠ 0) ∨
          (e.needle.pres = 1 ∧ (e.needle.val = 0 ∨ 15 < e.needle.val))) →
      exec (.amendMap map unit pairs) s =
        .next (s.answered s.part 0x50 .range
          (if 2 < map ∨ units < unit then []
          else
            (nth1 (if map = 0 then s.part.maps.active else if map = 1 then s.part.maps.a else s.part.maps.b) []
              (if unit = 0 then 1 else unit)).flatMap (itemOpt 1)))) ∧
    (∀ (mode : Nat) (m : MapMode), (mode = 0 ∧ m = .head) ∨ (mode = 1 ∧ m = .bank) →
      (s.part.ctl.state ≠ .unready → s.part.ctl.state ≠ .ready →
        ∃ items, exec (.amendMapMode mode) s = .next (s.answered s.part 0x51 .state items)) ∧
      ((s.part.ctl.state = .unready ∨ s.part.ctl.state = .ready) →
        (m = s.part.maps.mode → exec (.amendMapMode mode) s = .next (s.answered s.part 0x51 .done [.u 1 mode])) ∧
        (m ≠ s.part.maps.mode →
          ∃ n : Maps, exec (.amendMapMode mode) s = .next (s.answered { s.part with maps := n } 0x51 .done [.u 1 mode]) ∧
            n.mode = m ∧ n.origin = .default ∧ n.loadedA = false ∧ n.loadedB = false ∧ n.held = none ∧
            ∀ u slot, 1 ≤ u → u ≤ (if m = .head then 20 else 4) → 1 ≤ slot → slot ≤ 24 →
              n.active.entry u slot = (if slot ≤ 15 then some slot else none) ∧ n.a.entry u slot = none ∧
              n.b.entry u slot = none))) ∧
    (∀ mode, 2 ≤ mode → ∃ items, exec (.amendMapMode mode) s = .next (s.answered s.part 0x51 .range items)) ∧
    ∀ d map : Nat,
      (d < 16 → (map = 1 ∨ map = 2) →
        ((s.part.lib.design d).state = .empty → exec (.automap d map) s =
            .next (s.answered s.part 0x53 .noRecord (s.part.lib.design d).items)) ∧
        ((s.part.lib.design d).state ≠ .empty →
          ∃ (m : NeedleMap) (items : List Item),
            exec (.automap d map) s =
              .next (s.answered
                { s.part with
                  maps :=
                    if map = 1 then { s.part.maps with a := m, loadedA := true }
                    else { s.part.maps with b := m, loadedB := true } }
                0x53 .done items) ∧
            (∀ (pairs : List (Nat × Nat)) (open_ : Nat → Nat → Bool),
              pairs = ((List.range units).flatMap fun u => (List.range 24).map fun k => (u + 1, k + 1)) →
              (∀ u slot, 1 ≤ u → u ≤ units → (open_ u slot = true ↔
                m.entry u slot = none ∧ nth1 (s.part.lib.design d).slots none slot ≠ none ∧
                  ∃ h, 1 ≤ h ∧ h ≤ s.part.par.headsFitted ∧ (s.part.head h).enable = true ∧
                    (s.part.maps.mode = .head ∧ u = h ∨ s.part.maps.mode = .bank ∧ 5 * u - 4 ≤ h ∧ h ≤ 5 * u))) →
              items =
                [.u 1 map, .u 1 s.part.maps.mode.code, .u 2 (pairs.countP fun e => (m.entry e.1 e.2).isSome),
                  .u 2 (pairs.countP fun e => open_ e.1 e.2)] ++
                itemOpt 1 (((List.range 24).map (· + 1)).find? fun k =>
                  (List.range units).any fun u => open_ (u + 1) k)) ∧
            ∀ u slot, 1 ≤ u → u ≤ units → 1 ≤ slot → slot ≤ 24 →
              ∀ considered : Nat → Prop,
                (∀ h, considered h ↔ 1 ≤ h ∧ h ≤ s.part.par.headsFitted ∧ (s.part.head h).enable = true ∧
                  (s.part.maps.mode = .head ∧ u = h ∨ s.part.maps.mode = .bank ∧ 5 * u - 4 ≤ h ∧ h ≤ 5 * u)) →
                (nth1 (s.part.lib.design d).slots none slot = none → m.entry u slot = none) ∧
                ((∀ h, ¬considered h) → m.entry u slot = none) ∧
                ∀ colour, nth1 (s.part.lib.design d).slots none slot = some colour → (∃ h, considered h) →
                  ∀ n, m.entry u slot = some n ↔
                    1 ≤ n ∧ n ≤ 15 ∧
                      (∀ h, considered h →
                        (s.part.thread h n).colour = some colour ∧ (s.part.thread h n).state = .ready) ∧
                      ∀ j, 1 ≤ j → j < n → ∃ h, considered h ∧
                        ¬((s.part.thread h j).colour = some colour ∧ (s.part.thread h j).state = .ready))) ∧
      (16 ≤ d ∨ map = 0 ∨ 2 < map →
        exec (.automap d map) s =
          .next (s.answered s.part 0x53 .range (if d < 16 then (s.part.lib.design d).items else [])))

/-- STROBE (R117) and a fall of MAPSTROBE (R118), applied at once outside CHANGING and held in it (R116, R119, R120): the staged
map is copied whole with its origin, a held strobe gives way, the last strobe record shows the outcome; a request for a map not
loaded is refused with STATE and recorded IGNORED, as the line is outside CHANGING. MAPSEL selects the line's map at the fall.
That the line's strobe is held in CHANGING though its map is not loaded, and that an ignored strobe leaves a held one held, are
the model's readings of R116, R118 and R120 (log entry 45); the payload of the refusal is log entry 49. A needle check, here
that of START, opens with the strobe step (R121, R122): a held strobe is applied, or else the map of auto_strobe is copied, a
map not loaded being recorded IGNORED. The end of a change applies a held strobe as the slot becomes the change slot (R119; that
it is recorded with CHANGING is log entry 48). -/
def Obligations.StrobesApplyOrAreHeld : Prop :=
  ∀ (s : State) (x : Staged) (map : Nat) (sel : Bool) (m : NeedleMap) (loaded : Bool),
    (x = .a ∧ map = 1 ∧ sel = false ∧ m = s.part.maps.a ∧ loaded = s.part.maps.loadedA) ∨
      (x = .b ∧ map = 2 ∧ sel = true ∧ m = s.part.maps.b ∧ loaded = s.part.maps.loadedB) →
    ∀ lines : Lines, lines = { s.part.lines with mapstrobe := false, mapsel := sel } →
    (s.listens →
      (loaded = true → s.part.ctl.state ≠ .changing →
        exec (.strobe map) s =
          .next (s.answered
            { s.part with
              maps := { s.part.maps with
                active := m, origin := if x = .a then .a else .b, held := none
                last := some ⟨.request, x, .applied, s.part.ctl.state⟩ } }
            0x52 .done [.u 1 0])) ∧
      (loaded = true → s.part.ctl.state = .changing →
        exec (.strobe map) s =
          .next (s.answered
            { s.part with
              maps := { s.part.maps with held := some ⟨.request, x⟩, last := some ⟨.request, x, .held, .changing⟩ } }
            0x52 .done [.u 1 1])) ∧
      (loaded = false →
        exec (.strobe map) s =
          .next (s.answered
            { s.part with maps := { s.part.maps with last := some ⟨.request, x, .ignored, s.part.ctl.state⟩ } }
            0x52 .state
            ({ s.part with
              maps := { s.part.maps with last := some ⟨.request, x, .ignored, s.part.ctl.state⟩ } } : Part).mapsItems)) ∧
      ∀ k, k = 0 ∨ 2 < k → exec (.strobe k) s = .next (s.answered s.part 0x52 .range [])) ∧
    (s.awake →
      (loaded = true → s.part.ctl.state ≠ .changing →
        exec (.mapstrobeFall sel) s =
          .next (s.put
            { s.part with
              lines := lines
              maps := { s.part.maps with
                active := m, origin := if x = .a then .a else .b, held := none
                last := some ⟨.line, x, .applied, s.part.ctl.state⟩ } })) ∧
      (s.part.ctl.state = .changing →
        exec (.mapstrobeFall sel) s =
          .next (s.put
            { s.part with
              lines := lines
              maps := { s.part.maps with held := some ⟨.line, x⟩, last := some ⟨.line, x, .held, .changing⟩ } })) ∧
      (loaded = false → s.part.ctl.state ≠ .changing →
        exec (.mapstrobeFall sel) s =
          .next (s.put
            { s.part with
              lines := lines
              maps := { s.part.maps with last := some ⟨.line, x, .ignored, s.part.ctl.state⟩ } }))) ∧
    ∀ copied : StrobeSource → CtlState → Maps,
      (∀ src st, copied src st =
        { s.part.maps with
          active := if loaded then m else s.part.maps.active
          origin := if loaded then (if x = .a then .a else .b) else s.part.maps.origin
          held := none, last := some ⟨src, x, if loaded then .applied else .ignored, st⟩ }) →
      (∀ b : Block, s.listens → s.part.ctl.state = .ready →
        s.part.cur ≠ (s.part.activeDesign.map Design.total).getD 0 →
        (s.part.activeDesign.bind fun y => y.blockOf s.part.cur) = some b →
        (∀ src, s.part.maps.held = some ⟨src, x⟩ → s.part.par.autoStrobe = .off ∨ s.part.changeDue = true →
          ∃ t, exec .start s = .next t ∧
            t.part.maps = copied src (if s.part.changeDue then .changing else .ready)) ∧
        (s.part.maps.held = none →
          (s.part.par.autoStrobe = .a ∧ x = .a) ∨ (s.part.par.autoStrobe = .b ∧ x = .b) ∨
            (s.part.par.autoStrobe = .line ∧ s.part.lines.mapsel = sel) →
          ∃ t st, exec .start s = .next t ∧ t.part.maps = copied .auto st ∧ (st = .ready ∨ st = .changing) ∧
            (s.part.changeDue = true → st = .changing)) ∧
        (s.part.maps.held = none → s.part.par.autoStrobe = .off →
          ∃ t, exec .start s = .next t ∧ t.part.maps = s.part.maps)) ∧
      ∀ c : ChangeRecord,
        (s.part.finishChange c).ctl.slot = some c.slot ∧
        (s.part.maps.held = none → (s.part.finishChange c).maps = s.part.maps) ∧
        ∀ src, s.part.maps.held = some ⟨src, x⟩ →
          (s.part.finishChange c).maps = copied src s.part.ctl.state

/-! ## Selectors -/

/-- SELECT (R146, R133, R134), CANCEL CHANGE (R137) and the end of a move by arrival, by its deadline or by LOST (R135, R136). SELECT
latches the needle the selector rests at, or adds a MANUAL request, granted at once to a free slot when no other waits. A cancel
ends a PENDING request, marks a MOVING one, sets the colour-skip of a DEMAND one (when the cancel is taken: the model's reading,
log entry 46). A report at the target ends the request DONE, or CANCELLED when a cancel was asked: the selector is AT_NEEDLE, the
needle latched, SELECT_DONE raised for a MANUAL one. The last arrival of a change ends it, a held strobe being applied (R119, log
entry 48; R144, R100): READY with cause JAM, with a pending cause or COLOUR, or STARTING. A deadline fails the request with JAM:
the selector JAMMED, its halt order set, no needle latched, the JAM latch and the FAULT notice set; the clock is brought up to it
(log entry 3). A request that ended keeps no deadline (the model's choice, log entry 64). LOST comes with the count below
lost_count (log entry 8). That SELECT judges the state first and CANCEL CHANGE the head is log entry 14. A report to a selector at
rest (R130): UNSURE recovers at a standing detent with its needle still absent, any other report to an AT_NEEDLE selector is a
disturbance with JAM declared. A head waiting in the change is taken off the list and evaluated again when its request has ended
(R143): latched, parked, sat out, passed over or given a DEMAND request. -/
def Obligations.SelectorRequestsAndTheirEnds : Prop :=
  ∀ (s : State) (h : Nat), s.part.complete →
    (∀ n, s.listens → s.part.ctl.state = .ready →
      (1 ≤ h → h ≤ s.part.par.headsFitted → h ≤ 20 → 1 ≤ n → n ≤ 15 → (s.part.head h).state ≠ .disabled →
        (s.part.selector h).state ≠ .jammed → (s.part.changeRequest h).state.inFlight = false →
        ((s.part.selector h).state = .atNeedle n →
          ∃ q : Part, exec (.select h n) s = .next (s.answered q 0x60 .done (q.selectorItems h)) ∧
            q.selector h = { s.part.selector h with latched := some n } ∧
            (∀ k, k ≠ h → q.selector k = s.part.selector k ∧ q.sensing k = s.part.sensing k) ∧
            q.arb.requests = s.part.arb.requests ∧ q.arb.slots = s.part.arb.slots ∧ q.heads = s.part.heads ∧
            q.ctl = s.part.ctl ∧ q.maps = s.part.maps ∧ q.chain = s.part.chain ∧ q.port.notices = s.part.port.notices) ∧
        ((s.part.selector h).state ≠ .atNeedle n →
          ∃ q : Part, exec (.select h n) s = .next (s.answered q 0x60 .taken (q.selectorItems h)) ∧
            (q.changeRequest h).target = n ∧ (q.changeRequest h).origin = .manual ∧
            (q.changeRequest h).cancelAsked = false ∧ (q.changeRequest h).occurred = false ∧
            ((q.changeRequest h).state = .pending ∨ (q.changeRequest h).state = .moving) ∧
            ((∀ k, (s.part.changeRequest k).state ≠ .pending) → s.part.freeSlot ≠ none →
              (q.changeRequest h).state = .moving ∧ (q.selector h).state = .moving ∧ (q.selector h).latched = none ∧
              some h ∈ q.arb.slots ∧
              ∀ e, e = s.part.par.selSettle +
                  (match (s.part.selector h).state with
                    | .atNeedle k => ((n : Int) - (k : Int)).natAbs
                    | _ => 15) * s.part.par.selStep →
                (q.changeRequest h).expected = some e ∧
                (q.changeRequest h).deadline = some (s.part.now + (e + s.part.par.selGrace) * 1000)) ∧
            q.heads = s.part.heads ∧ q.ctl = s.part.ctl ∧ q.maps = s.part.maps ∧
            q.port.notices = s.part.port.notices)) ∧
      ∀ st : Status,
        ((h = 0 ∨ s.part.par.headsFitted < h ∨ 20 < h ∨ n = 0 ∨ 15 < n) ∧ st = .range) ∨
          ((1 ≤ h ∧ h ≤ s.part.par.headsFitted ∧ h ≤ 20 ∧ 1 ≤ n ∧ n ≤ 15) ∧
            ((((s.part.head h).state = .disabled ∨ (s.part.selector h).state = .jammed) ∧ st = .state) ∨
              ((s.part.head h).state ≠ .disabled ∧ (s.part.selector h).state ≠ .jammed ∧
                (s.part.changeRequest h).state.inFlight = true ∧ st = .busy))) →
        ∃ items, exec (.select h n) s = .next (s.answered s.part 0x60 st items)) ∧
    (∀ n, s.listens → s.part.ctl.state ≠ .ready →
      ∃ items, exec (.select h n) s =
        .next (s.answered s.part 0x60 (if s.part.ctl.state = .locked then .locked else .state) items)) ∧
    (s.listens →
      (h = 0 ∨ 20 < h → exec (.cancelChange h) s = .next (s.answered s.part 0x61 .range [])) ∧
      (1 ≤ h → h ≤ 20 →
        (∀ st, (s.part.ctl.state = .locked ∧ st = .locked) ∨ (s.part.ctl.state = .repairing ∧ st = .busy) ∨
            (s.part.ctl.state ≠ .locked ∧ s.part.ctl.state ≠ .repairing ∧
              (s.part.changeRequest h).state.inFlight = false ∧ st = .state) →
          ∃ items, exec (.cancelChange h) s = .next (s.answered s.part 0x61 st items)) ∧
        (s.part.ctl.state ≠ .locked → s.part.ctl.state ≠ .repairing →
          ((s.part.changeRequest h).state = .moving →
            ∃ q : Part, exec (.cancelChange h) s = .next (s.answered q 0x61 .taken (q.selectorItems h)) ∧
              q.changeRequest h = { s.part.changeRequest h with cancelAsked := true } ∧
              ((s.part.changeRequest h).cancelAsked = true → q = s.part) ∧
              ((s.part.changeRequest h).cancelAsked = false →
                q.selector h =
                  { s.part.selector h with
                    skip := if (s.part.changeRequest h).origin = .demand then s.part.arb.change.map ChangeRecord.block
                      else (s.part.selector h).skip }) ∧
              (∀ k, k ≠ h → q.changeRequest k = s.part.changeRequest k ∧ q.selector k = s.part.selector k) ∧
              q.arb.slots = s.part.arb.slots ∧ q.ctl = s.part.ctl ∧ q.heads = s.part.heads) ∧
          ((s.part.changeRequest h).state = .pending → s.part.ctl.state ≠ .changing →
            ∃ q : Part, exec (.cancelChange h) s = .next (s.answered q 0x61 .done (q.selectorItems h)) ∧
              (q.changeRequest h).state = .cancelled ∧ (q.changeRequest h).cancelFinished = true ∧
              (q.changeRequest h).occurred = false ∧ (∀ x ∈ q.arb.slots, x ≠ some h) ∧
              ((s.part.changeRequest h).origin = .manual →
                q.port.notices = { s.part.port.notices with selectDone := true } ∧
                (q.selector h).skip = (s.part.selector h).skip) ∧
              q.ctl = s.part.ctl ∧ q.heads = s.part.heads ∧ q.maps = s.part.maps) ∧
          ∀ (c : ChangeRecord) (k : Nat), (s.part.changeRequest h).state = .pending →
            (s.part.changeRequest h).origin = .demand → s.part.ctl.state = .changing →
            s.part.arb.change = some c → c.isOpen = true → h ∉ c.waiting → isHead k = true → k ≠ h →
            (s.part.changeRequest k).state.inFlight = true → (s.part.changeRequest k).origin = .demand →
            (s.part.changeRequest k).changeNo = some c.number →
            ∃ q : Part, exec (.cancelChange h) s = .next (s.answered q 0x61 .done (q.selectorItems h)) ∧
              (q.changeRequest h).state = .cancelled ∧ (q.changeRequest h).cancelFinished = true ∧
              (q.changeRequest h).occurred = false ∧ (q.selector h).skip = some c.block ∧
              (q.selector h).latched = (s.part.selector h).latched ∧ (∀ x ∈ q.arb.slots, x ≠ some h) ∧
              q.arb.change = s.part.arb.change ∧ q.ctl = s.part.ctl ∧ q.heads = s.part.heads ∧
              q.maps = s.part.maps ∧ q.port.notices = s.part.port.notices))) ∧
    (∀ (x : Exchange) (f : List Byte) (r : Report) (n : Nat) (t : State) (ended : ChangeRequest), s.awake →
      s.part.chain.exchange = some x → x.kind = .idle → x.slot = h → isHead h = true → h < x.fitted →
      parseReport f = some r → r.seq = s.part.chain.seq → r.detent = some n → r.moving = false → r.button = false →
      (s.part.selector h).state = .moving → (s.part.changeRequest h).state = .moving →
      (s.part.changeRequest h).target = n → exec (.headReport f) s = .next t →
      ended =
        { s.part.changeRequest h with
          state := if (s.part.changeRequest h).cancelAsked then .cancelled else .done
          occurred := true, cancelFinished := (s.part.changeRequest h).cancelAsked, deadline := none } →
      ∀ arrived : Prop,
        (arrived ↔ t.part.changeRequest h = ended ∧
          t.part.selector h =
            { s.part.selector h with
              state := .atNeedle n, reported := some ⟨some n, false⟩, latched := some n, halt := false
              jamLive := false } ∧
          (∀ y ∈ t.part.arb.slots, y ≠ some h) ∧ t.part.heads = s.part.heads) →
      (s.part.ctl.state ≠ .changing → s.part.ctl.state ≠ .repairing →
        arrived ∧ t.part.ctl = s.part.ctl ∧
        t.part.port.notices =
          (if (s.part.changeRequest h).origin = .manual then { s.part.port.notices with selectDone := true }
          else s.part.port.notices)) ∧
      (∀ (c : ChangeRecord) (k : Nat), s.part.ctl.state = .changing → s.part.arb.change = some c → c.isOpen = true →
        h ∉ c.waiting → isHead k = true → k ≠ h → (s.part.changeRequest k).state.inFlight = true →
        (s.part.changeRequest k).origin = .demand → (s.part.changeRequest k).changeNo = some c.number →
        arrived ∧ t.part.ctl = s.part.ctl ∧ t.part.arb.change = s.part.arb.change) ∧
      (∀ (c : ChangeRecord) (k : Nat), s.part.ctl.state = .changing → s.part.arb.change = some c → c.isOpen = true →
        h ∈ c.waiting → (s.part.changeRequest h).origin = .manual → (s.part.head h).state = .active →
        (s.part.selector h).skip ≠ some c.block → s.part.mapEntry h c.slot = some n →
        (s.part.thread h n).state = .ready → isHead k = true → k ≠ h →
        (s.part.changeRequest k).state.inFlight = true → (s.part.changeRequest k).origin = .demand →
        (s.part.changeRequest k).changeNo = some c.number →
        arrived ∧ t.part.ctl = s.part.ctl ∧ t.part.port.notices = { s.part.port.notices with selectDone := true } ∧
        t.part.arb.change =
          some { c with waiting := c.waiting.filter fun j => decide (j ≠ h), latched := c.latched + 1 }) ∧
      ∀ (c : ChangeRecord) (e : ChangeEntry), s.part.ctl.state = .changing → s.part.arb.change = some c →
        c.isOpen = true → c.waiting = [] → s.part.ctl.change = some e →
        (∀ k, k ≠ h → (s.part.changeRequest k).state.inFlight = false) →
        t.part.changeRequest h = ended ∧ t.part.arb.change = some { c with isOpen := false } ∧
          t.part.ctl.slot = some c.slot ∧ t.part.ctl.change = none ∧ t.part.ctl.c = s.part.ctl.c ∧
          t.part.ctl.design = s.part.ctl.design ∧
          (s.part.maps.held = none → t.part.maps = s.part.maps) ∧
          (∀ src y m loaded, s.part.maps.held = some ⟨src, y⟩ →
            (y = .a ∧ m = s.part.maps.a ∧ loaded = s.part.maps.loadedA) ∨
              (y = .b ∧ m = s.part.maps.b ∧ loaded = s.part.maps.loadedB) →
            t.part.maps =
              { s.part.maps with
                active := if loaded then m else s.part.maps.active
                origin := if loaded then (if y = .a then .a else .b) else s.part.maps.origin
                held := none, last := some ⟨src, y, if loaded then .applied else .ignored, .changing⟩ }) ∧
          (∀ cause,
            (c.jamStop = true ∧ cause = .jam) ∨
              (c.jamStop = false ∧ ∃ k, s.part.ctl.pending = some k ∧ cause = k.cause) ∨
              (c.jamStop = false ∧ s.part.ctl.pending = none ∧ e.kind = .colour ∧
                s.part.par.continueAfterChange = false ∧ cause = .colour) →
            arrived ∧ t.part.ctl.state = .ready ∧ t.part.ctl.cause = cause ∧ t.part.ctl.pending = none ∧
            t.part.port.notices.stopped = true) ∧
          (c.jamStop = false → s.part.ctl.pending = none →
            (e.kind = .start ∨ s.part.par.continueAfterChange = true) → s.part.lines.drvFlt = true →
            s.part.shaft.drive = .disabled ∨ s.part.shaft.drive = .holding →
            (∀ k j, isHead k = true → (s.part.head k).state ≠ .parked j) →
            arrived ∧ t.part.ctl.state = .starting ∧ t.part.shaft.drive = .turning ∧
            t.part.shaft.demand = t.part.plan.demand)) ∧
    (∀ (x : Exchange) (f : List Byte) (r : Report) (t : State) (seen : Selector) (kept : Prop), s.awake →
      s.part.chain.exchange = some x → x.kind = .idle → x.slot = h → isHead h = true → h < x.fitted →
      parseReport f = some r → r.seq = s.part.chain.seq → r.button = false → exec (.headReport f) s = .next t →
      seen =
        { s.part.selector h with
          reported := some ⟨r.detent, r.moving⟩, halt := (s.part.selector h).halt && r.moving } →
      (kept ↔ t.part.arb.requests = s.part.arb.requests ∧ t.part.arb.slots = s.part.arb.slots ∧
        t.part.heads = s.part.heads ∧ t.part.ctl = s.part.ctl ∧ t.part.cases = s.part.cases ∧
        t.part.port.notices = s.part.port.notices) →
      (∀ n, (s.part.selector h).state = .unsure → r.detent = some n → r.moving = false →
        kept ∧ t.part.selector h = { seen with state := .atNeedle n, jamLive := false }) ∧
      (((s.part.selector h).state = .unsure ∧ (r.detent = none ∨ r.moving = true)) ∨
          (s.part.selector h).state = .jammed ∨
          (∃ n, (s.part.selector h).state = .atNeedle n ∧ r.detent = some n ∧ r.moving = false) →
        kept ∧ t.part.selector h = seen) ∧
      ∀ n, (s.part.selector h).state = .atNeedle n → ¬(r.detent = some n ∧ r.moving = false) →
        ((s.part.head h).state = .disabled →
          kept ∧ t.part.selector h = { seen with state := .unsure, latched := none }) ∧
        ((s.part.head h).state ≠ .disabled →
          t.part.selector h = { seen with state := .unsure, latched := none, jamLive := true } ∧
          (t.part.head h).latches = { (s.part.head h).latches with jam := true } ∧
          t.part.port.notices.fault = true ∧
          (∀ j, 1 ≤ j → j ≠ h → t.part.head j = s.part.head j) ∧ t.part.arb.requests = s.part.arb.requests ∧
          t.part.arb.slots = s.part.arb.slots ∧
          ((∀ y, s.part.ctl.repair = some y → y.head ≠ h) →
            ((s.part.head h).actions.jam = .stop →
              (t.part.head h).state = (s.part.head h).state ∧ t.part.cases = s.part.cases ∧
              t.part.port.notices = { s.part.port.notices with fault := true } ∧
              t.part.ctl =
                (match s.part.ctl.state with
                  | .starting | .running =>
                    { s.part.ctl with
                      state := .stopping, phase := some .slowing, pending := some (s.part.ctl.pending.getD .fault) }
                  | .stopping | .changing | .repairing =>
                    { s.part.ctl with pending := some (s.part.ctl.pending.getD .fault) }
                  | .ready =>
                    { s.part.ctl with cause := if s.part.ctl.cause = .designEnd then .designEnd else .fault }
                  | .traversing =>
                    match s.part.ctl.travel with
                    | some tr =>
                      if tr.kind = .back ∨ tr.kind = .fwd then
                        { s.part.ctl with
                          travel := some { tr with stopAsked := true, cause := some (tr.cause.getD .fault) } }
                      else s.part.ctl
                    | none => s.part.ctl
                  | _ => s.part.ctl)) ∧
            ((s.part.head h).actions.jam = .park →
              (t.part.head h).state =
                (match (s.part.head h).state with
                  | .active => .parked .jam
                  | st => st) ∧
              (s.part.sews = false → t.part.ctl = s.part.ctl ∧ t.part.cases = s.part.cases))))) ∧
    (∀ (p q : Part) (c w : ChangeRecord), p.complete → isHead h = true → p.ctl.state = .changing →
      p.arb.change = some c → c.isOpen = true → q = p.examineWaiting h →
      w = { c with waiting := c.waiting.filter fun j => decide (j ≠ h) } →
      q.ctl = p.ctl ∧ (∀ j, 1 ≤ j → j ≠ h → q.head j = p.head j) ∧
      (h ∉ c.waiting → q = p) ∧
      (h ∈ c.waiting → (p.changeRequest h).state.inFlight = false →
        ((p.head h).state = .disabled ∨ ((p.head h).state = .active ∧ (p.selector h).skip = some c.block) →
          q.arb.change = some w ∧ q.selector h = p.selector h ∧ q.head h = p.head h ∧
          q.changeRequest h = p.changeRequest h) ∧
        (∀ cause, (p.head h).state = .parked cause →
          q.arb.change = some w ∧ q.head h = p.head h ∧ q.changeRequest h = p.changeRequest h ∧
          q.selector h =
            { p.selector h with
              latched :=
                match p.mapEntry h c.slot with
                | some n => if (p.selector h).state = .atNeedle n then some n else none
                | none => none }) ∧
        ((p.head h).state = .active → (p.selector h).skip ≠ some c.block →
          (p.mapEntry h c.slot = none →
            q.arb.change = some { w with satOut := w.satOut + 1 } ∧
            q.selector h = { p.selector h with latched := none } ∧ q.head h = p.head h ∧
            q.changeRequest h = p.changeRequest h) ∧
          ∀ n, p.mapEntry h c.slot = some n →
            (∀ cause,
              ((p.thread h n).state = .broken ∧ cause = .break_) ∨
                (((p.thread h n).state = .empty ∨ (p.thread h n).state = .blocked) ∧ cause = .operator) ∨
                ((p.thread h n).state = .ready ∧
                  ((p.selector h).state = .jammed ∨ (p.selector h).state = .unsure) ∧ cause = .jam) →
              q.arb.change = some { w with parked := w.parked + 1 } ∧
              q.selector h = { p.selector h with latched := none } ∧
              q.head h = { p.head h with state := .parked cause } ∧ q.changeRequest h = p.changeRequest h) ∧
            ((p.thread h n).state = .ready → (p.selector h).state = .atNeedle n →
              q.arb.change = some { w with latched := w.latched + 1 } ∧
              q.selector h = { p.selector h with latched := some n } ∧ q.head h = p.head h ∧
              q.changeRequest h = p.changeRequest h) ∧
            ∀ m, (p.thread h n).state = .ready → (p.selector h).state = .atNeedle m → m ≠ n →
              q.arb.change = some { w with added := w.added + 1 } ∧ (q.selector h).latched = none ∧
              (q.changeRequest h).target = n ∧ (q.changeRequest h).origin = .demand ∧
              (q.changeRequest h).changeNo = some c.number ∧ q.head h = p.head h ∧
              (((q.changeRequest h).state = .pending ∧ (q.selector h).state = .atNeedle m ∧
                  ∀ y ∈ q.arb.slots, y ≠ none) ∨
                ((q.changeRequest h).state = .moving ∧ (q.selector h).state = .moving ∧ some h ∈ q.arb.slots))))) ∧
    ∀ (c : Instr) (kind : FailKind) (st : SelectorState), s.awake → isHead h = true →
      (c = .selectorDeadlineExpiry h ∧ kind = .jam ∧ st = .jammed) ∨
        (c = .lost h ∧ kind = .lost ∧ st = .unsure ∧ h ≤ s.part.par.headsFitted ∧ (s.part.head h).state ≠ .disabled ∧
          (s.part.link h).missing < s.part.par.lostCount) →
      ((s.part.changeRequest h).state = .moving →
        ∃ t : State, exec c s = .next t ∧ (t.part.changeRequest h).state = .failed kind ∧
          (t.part.changeRequest h).deadline = none ∧
          (t.part.changeRequest h).cancelFinished = (s.part.changeRequest h).cancelAsked ∧
          (t.part.selector h).state = st ∧ (t.part.selector h).halt = true ∧ (t.part.selector h).latched = none ∧
          (kind = .jam → (t.part.head h).latches.jam = true ∧
            ∀ d, (s.part.changeRequest h).deadline = some d → d ≤ t.part.now) ∧
          (kind = .lost → (t.part.head h).latches.lost = true ∧ (t.part.link h).missing = s.part.par.lostCount) ∧
          t.part.port.notices.fault = true ∧ t.part.lib = s.part.lib ∧ t.part.par = s.part.par) ∧
      ((s.part.changeRequest h).state ≠ .moving → kind = .jam → exec c s = .next s)

/-! ## Threads and the sample schedule -/

/-- AMEND THREAD (R152, R153), RETIRE THREAD, LOOKUP THREAD and LOOKUP THREADS (R154). The fields given replace the record's, the state
follows the table of R152; RETIRE empties the record; the latched needle of an ACTIVE head is BUSY while the controller
sews or repairs; every other thread record stays, and a DOWN already sent is revised when the latched needle leaves READY. Value
bytes that are not 0 of a field not given, or given as absent, are RANGE (R209). RANGE and NO_RECORD before BUSY is the model's
order (log entry 14), the fifteen records without a count its layout (log entry 15). -/
def Obligations.ThreadRecordsAmendedAndRetired : Prop :=
  ∀ (s : State) (h n : Nat), s.listens → s.part.complete →
    (1 ≤ h → h ≤ 20 → 1 ≤ n → n ≤ 15 →
      ∀ (t u : Thread) (held : Prop), t = s.part.thread h n →
        (held ↔ (s.part.ctl.state = .starting ∨ s.part.ctl.state = .running ∨ s.part.ctl.state = .stopping ∨
          s.part.ctl.state = .repairing) ∧ (s.part.head h).state = .active ∧ (s.part.selector h).latched = some n) →
        ∀ (c : Instr) (code : Nat),
          ((c = .retireThread h n ∧ code = 0x71 ∧ t.state ≠ .empty ∧ u = ⟨none, 0, 1023, .empty⟩) ∨
            (∃ (colour : Given Nat) (band : Given (Nat × Nat)) (state : Given Nat),
              c = .amendThread h n colour band state ∧ code = 0x70 ∧
              ((colour.sel = 0 ∧ colour.val = 0 ∧ u.colour = t.colour) ∨
                (colour.sel = 1 ∧ u.colour = some colour.val) ∨
                (colour.sel = 2 ∧ colour.val = 0 ∧ u.colour = none)) ∧
              ((band.sel = 0 ∧ band.val = (0, 0) ∧ u.low = t.low ∧ u.high = t.high) ∨
                (band.sel = 1 ∧ u.low = band.val.1 ∧ u.high = band.val.2)) ∧
              u.low ≤ u.high ∧ u.high ≤ 1023 ∧ (state.sel = 0 → state.val = 0) ∧
              ((u.colour = none ∧ state.sel = 0 ∧ u.state = .empty) ∨
                (u.colour ≠ none ∧
                  ((state.sel = 1 ∧ ((state.val = 1 ∧ u.state = .ready) ∨ (state.val = 2 ∧ u.state = .broken) ∨
                    (state.val = 3 ∧ u.state = .blocked))) ∨
                  (state.sel = 0 ∧ ((t.state = .empty ∧ u.state = .ready) ∨
                    (t.state ≠ .empty ∧ u.state = t.state)))))))) →
          (held → exec c s = .next (s.answered s.part code .busy t.items)) ∧
          (¬held →
            ∃ q : Part, exec c s = .next (s.answered q code .done u.items) ∧ q.thread h n = u ∧
              (∀ k j, 1 ≤ k → k ≤ 20 → ¬(k = h ∧ j = n) → q.thread k j = s.part.thread k j) ∧
              (∀ w, (s.part.selector h).latched = some n → u.state ≠ .ready → (q.link h).sent = some w →
                w.down = false) ∧
              ((s.part.selector h).latched ≠ some n ∨ u.state = .ready → q.chain = s.part.chain) ∧
              q.mon.sensing = s.part.mon.sensing ∧ q.mon.schedule = s.part.mon.schedule ∧ q.arb = s.part.arb ∧
              q.heads = s.part.heads ∧ q.ctl = s.part.ctl ∧ q.maps = s.part.maps ∧ q.par = s.part.par ∧
              q.port = s.part.port)) ∧
    (1 ≤ h → h ≤ 20 → 1 ≤ n → n ≤ 15 → (s.part.thread h n).state = .empty →
      exec (.retireThread h n) s = .next (s.answered s.part 0x71 .noRecord (s.part.thread h n).items)) ∧
    (1 ≤ h → h ≤ 20 → 1 ≤ n → n ≤ 15 → ∀ colour band state,
      (2 < colour.sel ∨ 1 < band.sel ∨ 1 < state.sel ∨ (colour.sel ≠ 1 ∧ colour.val ≠ 0) ∨
        (band.sel = 0 ∧ band.val ≠ (0, 0)) ∨ (state.sel = 0 ∧ state.val ≠ 0) ∨
        (band.sel = 1 ∧ (1023 < band.val.2 ∨ band.val.2 < band.val.1)) ∨
        (state.sel = 1 ∧ (state.val = 0 ∨ 3 < state.val ∨ colour.sel = 2 ∨
          (colour.sel = 0 ∧ (s.part.thread h n).colour = none)))) →
      exec (.amendThread h n colour band state) s = .next (s.answered s.part 0x70 .range (s.part.thread h n).items)) ∧
    (¬(1 ≤ h ∧ h ≤ 20 ∧ 1 ≤ n ∧ n ≤ 15) →
      (∀ colour band state, exec (.amendThread h n colour band state) s = .next (s.answered s.part 0x70 .range [])) ∧
      exec (.retireThread h n) s = .next (s.answered s.part 0x71 .range []) ∧
      exec (.lookupThread h n) s = .next (s.answered s.part 0x72 .range [])) ∧
    (1 ≤ h → h ≤ 20 → 1 ≤ n → n ≤ 15 →
      exec (.lookupThread h n) s = .next (s.answered s.part 0x72 .done (s.part.thread h n).items)) ∧
    (1 ≤ h → h ≤ 20 →
      exec (.lookupThreads h) s =
        .next (s.answered s.part 0x73 .done
          ((List.range 15).flatMap fun i => (s.part.thread h (i + 1)).items))) ∧
    (h = 0 ∨ 20 < h → exec (.lookupThreads h) s = .next (s.answered s.part 0x73 .range []))

/-- The sample schedule (R155, R156). ADD_SAMPLE inserts one entry after every entry whose angle is at or below its own and answers its
position; the schedule stays in order of angle and below 33 entries. RETIRE SAMPLE takes the entry at a position, the later
ones close up, CLEAR_SCHEDULE takes all; the refusals change nothing and every answer carries the schedule as it stands. That heads 0
means ALL, and that the position is sent before the schedule, are the model's choices (log entry 15), and so is RANGE before FULL
(log entry 14). -/
def Obligations.SampleScheduleKept : Prop :=
  ∀ s : State, s.listens → s.part.mon.schedule.Pairwise (fun a b => a.angle ≤ b.angle) →
    s.part.mon.schedule.length ≤ 32 →
    ∀ set : List SampleEntry → Part, (∀ l, set l = { s.part with mon := { s.part.mon with schedule := l } }) →
    (∀ (angle heads cadence use : Nat) (e : SampleEntry), angle ≤ 1023 → 1 ≤ cadence → cadence ≤ 8 →
      (heads = 0 ∧ e.head = none ∨ 1 ≤ heads ∧ heads ≤ 20 ∧ e.head = some heads) →
      (use = 0 ∧ e.use = .check ∨ use = 1 ∧ e.use = .settle) → e.angle = angle → e.cadence = cadence →
      (s.part.mon.schedule.length = 32 →
        exec (.addSample angle heads cadence use) s = .next (s.answered s.part 0x74 .full s.part.scheduleItems)) ∧
      (s.part.mon.schedule.length < 32 →
        ∃ before after : List SampleEntry,
          s.part.mon.schedule = before ++ after ∧ (∀ f ∈ before, f.angle ≤ angle) ∧ (∀ f ∈ after, angle < f.angle) ∧
          (before ++ e :: after).Pairwise (fun a b => a.angle ≤ b.angle) ∧
          exec (.addSample angle heads cadence use) s =
            .next (s.answered (set (before ++ e :: after)) 0x74 .done
              (.u 1 (before.length + 1) :: (set (before ++ e :: after)).scheduleItems)))) ∧
    (∀ angle heads cadence use : Nat, (1023 < angle ∨ 20 < heads ∨ cadence = 0 ∨ 8 < cadence ∨ 1 < use) →
      exec (.addSample angle heads cadence use) s = .next (s.answered s.part 0x74 .range s.part.scheduleItems)) ∧
    (∀ i, 1 ≤ i → i ≤ s.part.mon.schedule.length →
      ∃ (before after : List SampleEntry) (e : SampleEntry),
        s.part.mon.schedule = before ++ e :: after ∧ before.length + 1 = i ∧
        exec (.retireSample i) s =
          .next (s.answered (set (before ++ after)) 0x75 .done (set (before ++ after)).scheduleItems)) ∧
    (∀ i, i = 0 ∨ s.part.mon.schedule.length < i →
      exec (.retireSample i) s = .next (s.answered s.part 0x75 .noRecord s.part.scheduleItems)) ∧
    exec .clearSchedule s = .next (s.answered (set []) 0x76 .done (set []).scheduleItems)

/-! ## Heads, faults and cases -/

/-- A declaration of TENSION, BREAK, BOBBIN or LOST for a head (R81, R162 to R164, R173 to R176): the kind's latch and the FAULT
notice are set, BREAK keeps its ordinal and marks the thread BROKEN, LOST fills the missing count, BOBBIN empties the count; a
STOP slows the machine down or sets a pending or stop cause, a PARK parks an ACTIVE head with the kind as its cause and, while
the controller sews, opens a case at c, for BREAK at the break ordinal, closed at the end of its block when that has passed (R186,
R187, R192), a full table asking for a stop (R189); what such an opening reopens or absorbs is stated in HeadAndCaseRequests. A
DISABLED head and the NOTE action take none; no other head's record changes. The repaired head of a repair run in SEWING takes every
fault as a STOP, a BREAK leaving the lowest break ordinal (R199). That a declaration comes as an event with its operands, whatever
the counts are, is the model's choice (log entry 8): a BREAK is declared for a thread that is READY (R158), a LOST only with the count
below lost_count (R81), and otherwise nothing happens. The counts by which a report declares them are stated in
IdleExchangeCountsReports; a commit draws a bobbin down and declares it at 0 (R163). Outside reset the FAULT line is low in mode ALL
exactly while a fitted head has a latch of a kind not masked, and in mode FOLLOW exactly while the head followed is fitted and a
kind not masked is live on it (R171, R178). -/
def Obligations.FaultsAreDeclared : Prop :=
  (∀ (s : State) (c : Instr) (k : FaultKind) (cause : ParkCause) (h o n : Nat), s.awake → s.part.complete →
    1 ≤ h → h ≤ 20 → 1 ≤ n → n ≤ 15 →
    (c = .tensionDeclared h o n ∧ k = .tension ∧ cause = .tension) ∨
      (c = .breakDeclared h o n ∧ k = .break_ ∧ cause = .break_ ∧ (s.part.thread h n).state = .ready) ∨
      (c = .bobbinDeclared h o ∧ k = .bobbin ∧ cause = .bobbin) ∨
      (c = .lost h ∧ k = .lost ∧ cause = .lost ∧ h ≤ s.part.par.headsFitted ∧ (s.part.head h).state ≠ .disabled ∧
        (s.part.link h).missing < s.part.par.lostCount ∧ (s.part.changeRequest h).state ≠ .moving) →
    ∀ sewn : Repair → Prop,
      (∀ r, sewn r ↔ s.part.ctl.state = .repairing ∧ s.part.ctl.repair = some r ∧ r.phase = .sewing ∧ r.head = h) →
    ∃ t : State, exec c s = .next t ∧ t.pending = s.pending ∧
      (t.part.head h).latches = (s.part.head h).latches.put true k ∧ t.part.port.notices.fault = true ∧
      (∀ j, 1 ≤ j → j ≠ h → t.part.head j = s.part.head j) ∧
      (k = .break_ → (t.part.thread h n).state = .broken ∧ (t.part.head h).lastBreak = some o ∧
        (t.part.sensing h).lowRun = 0 ∧ (t.part.sensing h).firstLow = none) ∧
      (k = .tension → (t.part.sensing h).debounce = 0 ∧ (t.part.sensing h).tensionLive = true) ∧
      (k = .bobbin → (t.part.head h).bobbin = (s.part.head h).bobbin.map fun _ => 0) ∧
      (k = .lost → (t.part.link h).missing = s.part.par.lostCount ∧ (t.part.live h).lost = true) ∧
      (k ≠ .break_ → t.part.mon.threads = s.part.mon.threads ∧ (t.part.head h).lastBreak = (s.part.head h).lastBreak) ∧
      ((s.part.head h).state = .disabled ∨ ((∀ r, ¬sewn r) ∧ (s.part.head h).actions.of k = .note) →
        t.part.ctl = s.part.ctl ∧ (t.part.head h).state = (s.part.head h).state) ∧
      (∀ r, sewn r → (s.part.head h).state ≠ .disabled →
        (t.part.head h).state = (s.part.head h).state ∧
        t.part.ctl =
          { s.part.ctl with
            pending := some (s.part.ctl.pending.getD .fault)
            repair := some (if k = .break_ then { r with breakOrdinal := some (min o (r.breakOrdinal.getD o)) } else r) }) ∧
      ((∀ r, ¬sewn r) → (s.part.head h).state ≠ .disabled → (s.part.head h).actions.of k = .stop →
        (t.part.head h).state = (s.part.head h).state ∧
        t.part.ctl =
          (match s.part.ctl.state with
            | .starting | .running =>
              { s.part.ctl with
                state := .stopping, phase := some .slowing, pending := some (s.part.ctl.pending.getD .fault) }
            | .stopping | .changing | .repairing =>
              { s.part.ctl with pending := some (s.part.ctl.pending.getD .fault) }
            | .ready =>
              { s.part.ctl with cause := if s.part.ctl.cause = .designEnd then .designEnd else .fault }
            | .traversing =>
              match s.part.ctl.travel with
              | some tr =>
                if tr.kind = .back ∨ tr.kind = .fwd then
                  { s.part.ctl with
                    travel := some { tr with stopAsked := true, cause := some (tr.cause.getD .fault) } }
                else s.part.ctl
              | none => s.part.ctl
            | _ => s.part.ctl)) ∧
      ((∀ r, ¬sewn r) → (s.part.head h).actions.of k = .park →
        (t.part.head h).state =
          (match (s.part.head h).state with
            | .active => .parked cause
            | st => st) ∧
        (s.part.sews = false → t.part.ctl = s.part.ctl ∧ t.part.cases = s.part.cases) ∧
        ∀ (d c first : Nat) (b : Block) (ended : Prop), s.part.sews = true → (s.part.head h).state = .active →
          s.part.ctl.design = some d → s.part.ctl.c = some c → first = (if k = .break_ then o else c) →
          (s.part.lib.design d).blockOf first = some b → first ≤ b.last → (ended ↔ k = .break_ ∧ b.last < c) →
          (∀ j x, s.part.caseAt j = some x → x.head ≠ h) →
          (∀ j, j < 40 → s.part.caseAt j = none → (∀ i, i < j → s.part.caseAt i ≠ none) →
            (¬ended → t.part.caseAt j = some
              { head := h, design := d, slot := b.slot, first := first, last := none, floor := none, state := .isOpen
                progress := none }) ∧
            (ended → t.part.caseAt j = some
              { head := h, design := d, slot := b.slot, first := first, last := some b.last, floor := none
                state := .closed, progress := none }) ∧
            (∀ i, i ≠ j → t.part.caseAt i = s.part.caseAt i) ∧ t.part.port.notices.case = true ∧
            t.part.ctl = s.part.ctl) ∧
          ((∀ j, j < 40 → s.part.caseAt j ≠ none) →
            t.part.cases = s.part.cases ∧ t.part.port.notices.case = s.part.port.notices.case ∧
            t.part.ctl =
              { s.part.ctl with
                state := .stopping
                phase := if s.part.ctl.state = .stopping then s.part.ctl.phase else some .slowing
                pending := some (s.part.ctl.pending.getD .casesFull) })) ∧
      t.part.lib = s.part.lib ∧ t.part.maps = s.part.maps ∧ t.part.par = s.part.par ∧ t.part.pos = s.part.pos ∧
      t.part.arb = s.part.arb) ∧
  (∀ (s : State) (h o n : Nat), s.awake →
    (¬(1 ≤ h ∧ h ≤ 20 ∧ 1 ≤ n ∧ n ≤ 15) ∨ (s.part.thread h n).state ≠ .ready →
      exec (.breakDeclared h o n) s = .next s) ∧
    (h = 0 ∨ 20 < h ∨ s.part.par.headsFitted < h ∨ (s.part.head h).state = .disabled ∨
        s.part.par.lostCount ≤ (s.part.link h).missing →
      exec (.lost h) s = .next s)) ∧
  (∀ p : Part, p.port.inReset = false →
    (p.par.follow = none →
      (p.faultLow = true ↔ ∃ h, (1 ≤ h ∧ h ≤ p.par.headsFitted) ∧
        ∃ k, (p.head h).latches.has k = true ∧ (p.head h).mask.has k = false)) ∧
    (∀ h, p.complete → 1 ≤ h → h ≤ 20 → p.par.follow = some h →
      (p.faultLow = true ↔ h ≤ p.par.headsFitted ∧
        ∃ k, (p.head h).mask.has k = false ∧
          ((k = .break_ ∧ ∃ n, 1 ≤ n ∧ n ≤ 15 ∧ (p.thread h n).state = .broken) ∨
            (k = .tension ∧ (p.sensing h).tensionLive = true) ∨
            (k = .bobbin ∧ (p.head h).bobbin = some 0) ∨
            (k = .lost ∧ (p.link h).missing = p.par.lostCount) ∨
            (k = .jam ∧ (p.selector h).jamLive = true))))) ∧
  ∀ (p q : Part) (o len h b : Nat), p.complete → isHead h = true → (p.link h).recorded.down = true →
    (p.head h).bobbin = some b → q = p.drawBobbin o len h →
    (q.head h).bobbin = some (b - len) ∧ q.lib = p.lib ∧ q.maps = p.maps ∧ q.pos = p.pos ∧ q.mon.threads = p.mon.threads ∧
      (∀ j, 1 ≤ j → j ≠ h → q.head j = p.head j) ∧
      (0 < b → b ≤ len → (q.head h).latches.bobbin = true ∧ q.port.notices.fault = true) ∧
      (b = 0 ∨ len < b → { q with heads := p.heads } = p ∧
        q.head h = { p.head h with bobbin := some (b - len) })

/-- AMEND HEAD (R170, R183), AMEND CLEAR_FAULTS and CLEAR_JAM (R182, R147), PARK (R180), RESTORE_HEAD (R181) and RETIRE CASE
(R194). Mask, actions and bobbin are replaced as given; a cleared enable makes the head DISABLED, a set one ACTIVE or, while the
controller sews, PARKED for OPERATOR; in CHANGING it is evaluated for the open change. CLEAR_FAULTS takes the named latches;
CLEAR_JAM sets a JAMMED selector by its reported position. PARK and RESTORE turn ACTIVE and PARKED into each other; while the
controller sews a PARK opens a case at c in the lowest free record, or reopens a CLOSED one that reaches c, absorbing and
superseding what it then covers (R187), or asks the machine to stop when the table is full (R189), and a RESTORE sets the
restore mark at c (R193) and closes the head's case there (R185 to R187, R192). A cleared enable ends a PENDING request with
ABORT (R132, R147). RETIRE CASE frees a CLOSED or MENDED record. The codes STOP 0, PARK 1, NOTE 2 are log entry 39, AMEND HEAD's
RANGE before BUSY and the byte of CLEAR_FAULTS log entries 14 and 65, the empty DONE of RETIRE CASE log entry 49, the missing
count set to 0 of a head that leaves is R81 with log entry 27. -/
def Obligations.HeadAndCaseRequests : Prop :=
  ∀ (s : State) (h : Nat), s.listens → s.part.complete →
    (h = 0 ∨ 20 < h →
      (∀ f, exec (.amendHead h f) s = .next (s.answered s.part 0x80 .range [])) ∧
      (∀ k, exec (.amendClearFaults h k) s = .next (s.answered s.part 0x81 .range [])) ∧
      exec (.amendClearJam h) s = .next (s.answered s.part 0x82 .range []) ∧
      exec (.park h) s = .next (s.answered s.part 0x83 .range []) ∧
      exec (.restoreHead h) s = .next (s.answered s.part 0x84 .range [])) ∧
    (1 ≤ h → h ≤ 20 →
      ∀ r : Head, r = s.part.head h →
      (∀ (f : HeadFields) (ks : KindSet) (a b c d j : FaultAction) (spool : Option Nat),
        ((f.mask.sel = 0 ∧ f.mask.val = 0 ∧ ks = r.mask) ∨ (f.mask.sel = 1 ∧ f.mask.val < 32 ∧
          ks = ⟨f.mask.val.testBit 0, f.mask.val.testBit 1, f.mask.val.testBit 2, f.mask.val.testBit 3,
            f.mask.val.testBit 4⟩)) →
        (∀ act : Given Nat → FaultAction → FaultAction → Bool → Prop,
          (∀ g old new note, act g old new note ↔ (g.sel = 0 ∧ g.val = 0 ∧ new = old) ∨ (g.sel = 1 ∧
            ((g.val = 0 ∧ new = .stop) ∨ (g.val = 1 ∧ new = .park) ∨ (g.val = 2 ∧ new = .note ∧ note = true)))) →
          act f.onBreak r.actions.break_ a false ∧ act f.onTension r.actions.tension b true ∧
          act f.onBobbin r.actions.bobbin c false ∧ act f.onLost r.actions.lost d false ∧
          act f.onJam r.actions.jam j false) →
        ((f.bobbin.sel = 0 ∧ f.bobbin.val = 0 ∧ spool = r.bobbin) ∨
          (f.bobbin.sel = 1 ∧ spool = some f.bobbin.val ∧ f.bobbin.val ≤ 16777215) ∨
          (f.bobbin.sel = 2 ∧ f.bobbin.val = 0 ∧ spool = none)) →
        ∀ r' : Head, r' = { r with mask := ks, actions := ⟨a, b, c, d, j⟩, bobbin := spool } →
        ((f.enable.sel = 0 ∧ f.enable.val = 0) ∨ (f.enable.sel = 1 ∧ f.enable.val = r.enable.toNat) →
          ∃ items, exec (.amendHead h f) s = .next (s.answered (s.part.setHead h r') 0x80 .done items)) ∧
        (f.enable.sel = 1 → f.enable.val = (!r.enable).toNat →
          (s.part.ctl.state = .repairing → ∃ x, s.part.ctl.repair = some x ∧ x.head ≠ h) →
          ∃ q : Part, exec (.amendHead h f) s = .next (s.answered q 0x80 .done (q.headItems h)) ∧
            (q.head h).enable = (!r.enable) ∧ (q.head h).mask = ks ∧ (q.head h).actions = ⟨a, b, c, d, j⟩ ∧
            (q.head h).bobbin = spool ∧ (q.head h).latches = r.latches ∧ (q.head h).lastBreak = r.lastBreak ∧
            (r.enable = true → (q.head h).state = .disabled) ∧
            (r.enable = true → r.state ≠ .disabled → s.part.ctl.state ≠ .changing →
              (s.part.changeRequest h).state ≠ .pending →
              (q.link h).missing = 0 ∧ (∀ w, (q.link h).sent = some w → w.down = false) ∧ (q.sensing h).lowRun = 0 ∧
              (r.state = .active → q.cases = s.part.cases ∧ q.ctl = s.part.ctl)) ∧
            (r.enable = false → r.state = .disabled → h ≤ s.part.par.headsFitted → s.part.ctl.state ≠ .changing →
              (q.head h).state =
                (match s.part.ctl.state with
                  | .starting | .running | .stopping | .repairing => .parked .operator
                  | _ => .active) ∧ q.cases = s.part.cases ∧ q.ctl = s.part.ctl ∧ q.arb = s.part.arb) ∧
            (r.enable = false → s.part.par.headsFitted < h → (q.head h).state = r.state) ∧
            (∀ (e : ChangeRecord) (m : Nat), r.enable = false → r.state = .disabled → h ≤ s.part.par.headsFitted →
              s.part.ctl.state = .changing → s.part.arb.change = some e → e.isOpen = true → isHead m = true → m ≠ h →
              (s.part.changeRequest m).state.inFlight = true → (s.part.changeRequest m).origin = .demand →
              (s.part.changeRequest m).changeNo = some e.number → (s.part.selector h).skip ≠ some e.block →
              (s.part.changeRequest h).state.inFlight = false →
              q.ctl = s.part.ctl ∧ q.cases = s.part.cases ∧
              (s.part.mapEntry h e.slot = none → (q.head h).state = .active ∧ (q.selector h).latched = none) ∧
              ∀ n, s.part.mapEntry h e.slot = some n →
                (∀ cause,
                  ((s.part.thread h n).state = .broken ∧ cause = .break_) ∨
                    (((s.part.thread h n).state = .empty ∨ (s.part.thread h n).state = .blocked) ∧
                      cause = .operator) ∨
                    ((s.part.thread h n).state = .ready ∧
                      ((s.part.selector h).state = .jammed ∨ (s.part.selector h).state = .unsure) ∧ cause = .jam) →
                  (q.head h).state = .parked cause ∧ (q.selector h).latched = none) ∧
                ((s.part.thread h n).state = .ready → (s.part.selector h).state = .atNeedle n →
                  (q.head h).state = .active ∧ (q.selector h).latched = some n) ∧
                ∀ k, (s.part.thread h n).state = .ready → (s.part.selector h).state = .atNeedle k → k ≠ n →
                  (q.head h).state = .active ∧ (q.selector h).latched = none ∧ (q.changeRequest h).target = n ∧
                  (q.changeRequest h).origin = .demand ∧ (q.changeRequest h).changeNo = some e.number ∧
                  ((q.changeRequest h).state = .pending ∨ (q.changeRequest h).state = .moving)) ∧
            (r.enable = true → s.part.ctl.state ≠ .changing → (s.part.changeRequest h).state = .pending →
              (q.changeRequest h).state = .failed .abort ∧ (q.changeRequest h).occurred = false ∧
              (∀ x ∈ q.arb.slots, x ≠ some h) ∧
              ((s.part.changeRequest h).origin = .manual → q.port.notices.selectDone = true))) ∧
        (f.enable.sel = 1 → f.enable.val = (!r.enable).toNat → s.part.ctl.state = .repairing →
          (∃ x, s.part.ctl.repair = some x ∧ x.head = h) →
          ∃ items, exec (.amendHead h f) s = .next (s.answered s.part 0x80 .busy items))) ∧
      (∀ f : HeadFields,
        (1 < f.enable.sel ∨ (f.enable.sel = 1 ∧ 1 < f.enable.val) ∨ 1 < f.mask.sel ∨ 1 < f.onTension.sel ∨
          (∃ g ∈ [f.enable, f.mask, f.onBreak, f.onTension, f.onBobbin, f.onLost, f.onJam, f.bobbin],
            g.sel ≠ 1 ∧ g.val ≠ 0) ∨
          (f.mask.sel = 1 ∧ 31 < f.mask.val) ∨ (f.onTension.sel = 1 ∧ 2 < f.onTension.val) ∨
          (∃ g ∈ [f.onBreak, f.onBobbin, f.onLost, f.onJam], 1 < g.sel ∨ (g.sel = 1 ∧ 1 < g.val)) ∨
          2 < f.bobbin.sel ∨ (f.bobbin.sel = 1 ∧ 16777215 < f.bobbin.val)) →
        ∃ items, exec (.amendHead h f) s = .next (s.answered s.part 0x80 .range items)) ∧
      (∀ kinds, kinds < 32 →
        ∃ items, exec (.amendClearFaults h kinds) s =
          .next (s.answered
            (s.part.setHead h
              { r with
                latches :=
                  ⟨r.latches.break_ && !kinds.testBit 0, r.latches.tension && !kinds.testBit 1,
                    r.latches.bobbin && !kinds.testBit 2, r.latches.lost && !kinds.testBit 3,
                    r.latches.jam && !kinds.testBit 4⟩ })
            0x81 .done items)) ∧
      (∀ kinds, 32 ≤ kinds → ∃ items, exec (.amendClearFaults h kinds) s = .next (s.answered s.part 0x81 .range items)) ∧
      (∃ (x : Selector) (items : List Item),
        exec (.amendClearJam h) s =
          .next (s.answered
            ((s.part.setHead h { r with latches := { r.latches with jam := false } }).setSelector h x) 0x82 .done
            items) ∧
        ((s.part.selector h).state ≠ .jammed → x = s.part.selector h) ∧
        ((s.part.selector h).state = .jammed →
          (∀ n, (s.part.selector h).reported = some ⟨some n, false⟩ →
            x = { s.part.selector h with state := .atNeedle n, jamLive := false }) ∧
          ((∀ n, (s.part.selector h).reported ≠ some ⟨some n, false⟩) →
            x = { s.part.selector h with state := .unsure }))) ∧
      (∀ st, (s.part.ctl.state = .locked ∧ st = .locked) ∨ (s.part.ctl.state = .repairing ∧ st = .busy) →
        ∃ items, exec (.park h) s = .next (s.answered s.part 0x83 st items) ∧
          exec (.restoreHead h) s = .next (s.answered s.part 0x84 st items)) ∧
      (s.part.ctl.state ≠ .locked → s.part.ctl.state ≠ .repairing →
        (r.state = .active →
          ∃ q : Part, exec (.park h) s = .next (s.answered q 0x83 .done (q.headItems h)) ∧
            q.head h = { r with state := .parked .operator } ∧ (∀ k, 1 ≤ k → k ≠ h → q.head k = s.part.head k) ∧
            (∀ w, (q.link h).sent = some w → w.down = false) ∧ (q.sensing h).debounce = 0 ∧
            (q.sensing h).lowRun = 0 ∧
            (∀ d c b (meets : Case → Prop), s.part.sews = true → s.part.ctl.design = some d → s.part.ctl.c = some c →
              (s.part.lib.design d).blockOf c = some b →
              (∀ x, meets x ↔ x.head = h ∧ x.design = d ∧ x.state = .closed ∧ b.first ≤ x.first ∧ x.first ≤ b.last ∧
                x.first ≤ c ∧ ∃ l, x.last = some l ∧ c ≤ l + 1) →
              ((∀ j x, s.part.caseAt j = some x → ¬meets x) →
                (∀ k, k < 40 → s.part.caseAt k = none → (∀ j, j < k → s.part.caseAt j ≠ none) →
                  q.caseAt k = some
                    { head := h, design := d, slot := b.slot, first := c, last := none, floor := none
                      state := .isOpen, progress := none } ∧
                  (∀ j, j ≠ k → q.caseAt j = s.part.caseAt j) ∧ q.port.notices.case = true ∧
                  q.ctl = s.part.ctl) ∧
                ((∀ k, k < 40 → s.part.caseAt k ≠ none) →
                  q.cases = s.part.cases ∧ q.port.notices = s.part.port.notices ∧
                  q.ctl =
                    { s.part.ctl with
                      state := .stopping
                      phase := if s.part.ctl.state = .stopping then s.part.ctl.phase else some .slowing
                      pending := some (s.part.ctl.pending.getD .casesFull) })) ∧
              ∀ k x l, k < 40 → s.part.caseAt k = some x → meets x → x.last = some l →
                (∀ j y, j ≠ k → s.part.caseAt j = some y → y.head = h → y.design = d →
                  ¬(meets y ∧ y.first ≤ x.first)) →
                q.ctl = s.part.ctl ∧ q.port.notices.case = true ∧
                (∀ j y, j ≠ k → s.part.caseAt j = some y → (y.head ≠ h ∨ y.design ≠ d) → q.caseAt j = some y) ∧
                (∀ j, s.part.caseAt j = none → q.caseAt j = none) ∧
                ((∀ j y, j ≠ k → s.part.caseAt j = some y → y.head = h → y.design ≠ d) →
                  q.caseAt k = some { x with state := .isOpen, floor := some l, last := none }) ∧
                ∀ j y m reach, j ≠ k → s.part.caseAt j = some y → y.head = h → y.design = d → y.last = some m →
                  (∀ i z, i ≠ k → i ≠ j → s.part.caseAt i = some z → z.head = h → z.design ≠ d) →
                  reach = max ((c : Int) - 1) l →
                  (y.state = .closed → x.first < y.first → (y.first : Int) ≤ reach →
                    q.caseAt j = none ∧
                    q.caseAt k = some { x with state := .isOpen, floor := some (max l m), last := none }) ∧
                  (y.state = .closed → (y.first ≤ x.first ∨ reach < y.first) →
                    q.caseAt j = some y ∧
                    q.caseAt k = some { x with state := .isOpen, floor := some l, last := none }) ∧
                  (y.state = .mended →
                    q.caseAt k = some { x with state := .isOpen, floor := some l, last := none } ∧
                    q.caseAt j =
                      if ((max x.first y.first : Nat) : Int) ≤ min reach m then none else some y)) ∧
            (s.part.sews = false → q.cases = s.part.cases ∧ q.ctl = s.part.ctl) ∧
            q.arb = s.part.arb ∧ q.maps = s.part.maps ∧ q.lib = s.part.lib ∧ q.mon.threads = s.part.mon.threads) ∧
        (r.state ≠ .active → ∃ items, exec (.park h) s = .next (s.answered s.part 0x83 .state items)) ∧
        ∀ ok : Prop,
          (ok ↔ (∃ k, r.state = .parked k) ∧
            (∃ n, (s.part.selector h).latched = some n ∧ (s.part.thread h n).state = .ready) ∧
            (s.part.selector h).state ≠ .jammed ∧ (s.part.link h).missing ≠ s.part.par.lostCount) →
          (¬ok → ∃ items, exec (.restoreHead h) s = .next (s.answered s.part 0x84 .state items)) ∧
          (ok →
            ∃ q : Part, exec (.restoreHead h) s = .next (s.answered q 0x84 .done (q.headItems h)) ∧
              q.head h = { r with state := .active } ∧ (∀ k, 1 ≤ k → k ≠ h → q.head k = s.part.head k) ∧
              q.chain = s.part.chain ∧ q.arb = s.part.arb ∧ q.ctl = s.part.ctl ∧ q.maps = s.part.maps ∧
              q.lib = s.part.lib ∧ q.mon = s.part.mon ∧
              q.cases.marks = (if s.part.sews then set1 s.part.cases.marks h s.part.ctl.c else s.part.cases.marks) ∧
              (s.part.openCaseOf h = none → q.cases.records = s.part.cases.records) ∧
              ∀ k x c last, k < 40 → s.part.caseAt k = some x → x.head = h → x.state = .isOpen → s.part.ctl.c = some c →
                (∀ j, j ≠ k → s.part.caseAt j = none) → (∀ g, x.floor = some g → last = max ((c : Int) - 1) g) →
                (x.floor = none → last = (c : Int) - 1) →
                q.port.notices.case = true ∧ (∀ j, j ≠ k → q.caseAt j = none) ∧
                q.caseAt k =
                  (if last < x.first then none
                  else some { x with state := .closed, last := some last.toNat, floor := none })))) ∧
    ∀ k,
      (40 ≤ k → exec (.retireCase k) s = .next (s.answered s.part 0x90 .range [])) ∧
      (k < 40 → s.part.caseAt k = none → exec (.retireCase k) s = .next (s.answered s.part 0x90 .noRecord [])) ∧
      ∀ x, k < 40 → s.part.caseAt k = some x →
        (x.state = .isOpen ∨ x.state = .repairing →
          exec (.retireCase k) s = .next (s.answered s.part 0x90 .state (x.items k))) ∧
        (x.state = .closed ∨ x.state = .mended →
          exec (.retireCase k) s =
            .next (s.answered
              { s.part with cases := { s.part.cases with records := s.part.cases.records.set k none } } 0x90 .done []))

/-! ## Parameters -/

/-- AMEND PARAMETERS (R25, R61, R62, R212): outside UNREADY and READY refused with STATE, with a selector or a listed value outside
its encoding, or value bytes that are not 0 of a field not given (R209), with RANGE, K_x or K_y with a design active with STATE
(RANGE first: log entry 14); taken, every parameter is the value given, or held, clamped in
the order of R61; the requested speed and v_set are clamped, a missing count above lost_count lowered to it and one of a head that
leaves the fitted heads set to 0 (R81) and its OPEN case closed at c (R192), the other blocks' records kept. fault_line_mode is
coded ALL 0, FOLLOW 1 with its head (log
entry 38). -/
def Obligations.ParametersAmended : Prop :=
  ∀ (s : State) (f : ParamFields), s.listens →
    (s.part.ctl.state ≠ .unready → s.part.ctl.state ≠ .ready →
      exec (.amendParameters f) s = .next (s.answered s.part 0xA0 .state s.part.par.items)) ∧
    ((s.part.ctl.state = .unready ∨ s.part.ctl.state = .ready) →
      ∀ numbers : List (Given Nat),
        numbers = [f.vMin, f.vMax, f.vJump, f.vStop, f.slew, f.stopSlew, f.fX, f.fY, f.kX, f.kY, f.fTrav, f.wStart,
          f.wEnd, f.headsFitted, f.lostCount, f.selStep, f.selSettle, f.selGrace, f.tensionCount, f.breakRatio,
          f.breakCount, f.motionBase, f.motionRate, f.stopLineCount] →
        ∀ legal : Prop,
          (legal ↔ (∀ g ∈ numbers, g.sel = 1 ∨ (g.sel = 0 ∧ g.val = 0)) ∧
            ((f.continueAfterChange.sel = 0 ∧ f.continueAfterChange.val = 0) ∨
              (f.continueAfterChange.sel = 1 ∧ f.continueAfterChange.val ≤ 1)) ∧
            ((f.startRepeat.sel = 0 ∧ f.startRepeat.val = 0) ∨ (f.startRepeat.sel = 1 ∧ f.startRepeat.val ≤ 1)) ∧
            ((f.autoStrobe.sel = 0 ∧ f.autoStrobe.val = 0) ∨ (f.autoStrobe.sel = 1 ∧ f.autoStrobe.val ≤ 3)) ∧
            ((f.faultLine.sel = 0 ∧ f.faultLine.val = (0, 0)) ∨
              (f.faultLine.sel = 1 ∧ (f.faultLine.val = (0, 0) ∨
              (f.faultLine.val.1 = 1 ∧ 1 ≤ f.faultLine.val.2 ∧ f.faultLine.val.2 ≤ 20))))) →
        (¬legal → exec (.amendParameters f) s = .next (s.answered s.part 0xA0 .range s.part.par.items)) ∧
        (legal → (f.kX.sel = 1 ∨ f.kY.sel = 1) → s.part.ctl.design ≠ none →
          exec (.amendParameters f) s = .next (s.answered s.part 0xA0 .state s.part.par.items)) ∧
        (legal → ¬((f.kX.sel = 1 ∨ f.kY.sel = 1) ∧ s.part.ctl.design ≠ none) →
          ∃ (q : Part) (y : Params), exec (.amendParameters f) s = .next (s.answered q 0xA0 .done q.par.items) ∧
            y = q.par ∧ y.inRange ∧
            (∀ put : Given Nat → Nat → Nat, (∀ g v, put g v = if g.sel = 1 then g.val else v) →
              ∀ x : Params, x = s.part.par →
              y.vMin = clampNat 100 400 (put f.vMin x.vMin) ∧ y.vMax = clampNat y.vMin 1500 (put f.vMax x.vMax) ∧
              y.vJump = clampNat y.vMin y.vMax (put f.vJump x.vJump) ∧
              y.vStop = clampNat y.vMin y.vMax (put f.vStop x.vStop) ∧
              y.slew = max (clampNat 10 400 (put f.slew x.slew)) (ceilDiv (y.vMax - y.vMin) 15) ∧
              y.stopSlew = clampNat y.slew 600 (put f.stopSlew x.stopSlew) ∧
              y.fX = clampNat 5000 60000 (put f.fX x.fX) ∧ y.fY = clampNat 5000 60000 (put f.fY x.fY) ∧
              y.kX = clampNat 256 8192 (put f.kX x.kX) ∧ y.kY = clampNat 256 8192 (put f.kY x.kY) ∧
              y.fTrav = clampNat 1000 (min y.fX y.fY) (put f.fTrav x.fTrav) ∧
              y.wStart = clampNat 600 900 (put f.wStart x.wStart) ∧ y.wEnd = clampNat 60 180 (put f.wEnd x.wEnd) ∧
              y.headsFitted = clampNat 1 20 (put f.headsFitted x.headsFitted) ∧
              y.lostCount = clampNat 1 15 (put f.lostCount x.lostCount) ∧
              y.selStep = clampNat 10 200 (put f.selStep x.selStep) ∧
              y.selSettle = clampNat 0 500 (put f.selSettle x.selSettle) ∧
              y.selGrace = clampNat 50 2000 (put f.selGrace x.selGrace) ∧
              y.tensionCount = clampNat 1 15 (put f.tensionCount x.tensionCount) ∧
              y.breakRatio = clampNat 1 15 (put f.breakRatio x.breakRatio) ∧
              y.breakCount = clampNat 1 15 (put f.breakCount x.breakCount) ∧
              y.motionBase = clampNat 0 63 (put f.motionBase x.motionBase) ∧
              y.motionRate = clampNat 0 4095 (put f.motionRate x.motionRate) ∧
              y.stopLineCount = put f.stopLineCount x.stopLineCount ∧
              y.continueAfterChange =
                (if f.continueAfterChange.sel = 1 then decide (f.continueAfterChange.val = 1)
                else x.continueAfterChange) ∧
              y.startRepeat = (if f.startRepeat.sel = 1 then decide (f.startRepeat.val = 1) else x.startRepeat) ∧
              (f.autoStrobe.sel = 0 → y.autoStrobe = x.autoStrobe) ∧
              (f.autoStrobe.sel = 1 →
                (f.autoStrobe.val = 0 → y.autoStrobe = .off) ∧ (f.autoStrobe.val = 1 → y.autoStrobe = .a) ∧
                (f.autoStrobe.val = 2 → y.autoStrobe = .b) ∧ (f.autoStrobe.val = 3 → y.autoStrobe = .line)) ∧
              y.follow =
                (if f.faultLine.sel = 1 then
                  if f.faultLine.val.1 = 0 then none else some f.faultLine.val.2
                else x.follow)) ∧
            q.plan.requested = clampNat y.vMin y.vMax s.part.plan.requested ∧
            q.plan.vSet = clampNat y.vMin y.vMax s.part.plan.vSet ∧
            (s.part.chain.links.length = 20 → ∀ h, isHead h = true →
              (q.link h).missing =
                if y.headsFitted < h ∧ (s.part.head h).state ≠ .disabled then 0
                else min (s.part.link h).missing y.lostCount) ∧
            (s.part.heads.length = 20 → ∀ h, isHead h = true →
              (y.headsFitted < h → (q.head h).state = .disabled) ∧
              (h ≤ s.part.par.headsFitted → h ≤ y.headsFitted → q.head h = s.part.head h) ∧
              (s.part.par.headsFitted < h → h ≤ y.headsFitted →
                (q.head h).state = if (s.part.head h).enable then .active else .disabled)) ∧
            (s.part.heads.length = 20 → s.part.cases.records.length = 40 →
              ((∀ h, y.headsFitted < h → s.part.openCaseOf h = none) →
                q.cases = s.part.cases ∧ q.port.notices = s.part.port.notices) ∧
              (∀ j x, s.part.caseAt j = some x → x.head ≤ y.headsFitted → q.caseAt j = some x) ∧
              ∀ (h k c : Nat) (x : Case) (last : Int), isHead h = true → y.headsFitted < h →
                (∃ cause, (s.part.head h).state = .parked cause) → k < 40 → s.part.caseAt k = some x → x.head = h →
                x.state = .isOpen → s.part.ctl.c = some c →
                (∀ j z, j ≠ k → s.part.caseAt j = some z → z.head ≠ h) →
                (∀ g, x.floor = some g → last = max ((c : Int) - 1) g) → (x.floor = none → last = (c : Int) - 1) →
                q.port.notices.case = true ∧
                q.caseAt k =
                  (if last < x.first then none
                  else some { x with state := .closed, last := some last.toNat, floor := none })) ∧
            q.ctl = s.part.ctl ∧ q.lib = s.part.lib ∧ q.pos = s.part.pos ∧ q.maps = s.part.maps ∧ q.arb = s.part.arb ∧
            q.shaft = s.part.shaft ∧ q.mon.threads = s.part.mon.threads))
end

