-- ==== Sys2Proof/Laws/Exec.lean ====
section
/-! SUPPORT. What each command is: one rewriting rule for each constructor, from `exec` to the shape its meaning has. -/

namespace Sys2Proof.Machine

@[simp] theorem exec_openDesign (d : Nat) (s : State) :
    exec (.openDesign d) s = s.request 0x10 fun p => p.openDesign d := rfl

@[simp] theorem exec_putStitches (d format count : Nat) (records : List RawStitch) (s : State) :
    exec (.putStitches d format count records) s =
      s.request 0x11 fun p => p.putStitches d format count records := rfl

@[simp] theorem exec_putRun (d r : Nat) (fields : RunFields) (s : State) :
    exec (.putRun d r fields) s = s.request 0x12 fun p => p.putRun d r fields := rfl

@[simp] theorem exec_retireRun (d r : Nat) (s : State) :
    exec (.retireRun d r) s = s.request 0x13 fun p => p.retireRun d r := rfl

@[simp] theorem exec_amendDesign (d : Nat) (startRun : Given Nat) (colours : List SlotColour) (s : State) :
    exec (.amendDesign d startRun colours) s = s.request 0x14 fun p => p.amendDesign d startRun colours := rfl

@[simp] theorem exec_seal (d : Nat) (s : State) :
    exec (.seal d) s = s.request 0x15 fun p => p.sealRequest d := rfl

@[simp] theorem exec_retireDesign (d discard : Nat) (s : State) :
    exec (.retireDesign d discard) s = s.request 0x16 fun p => p.retireDesign d discard := rfl

@[simp] theorem exec_lookupDesign (d : Nat) (s : State) :
    exec (.lookupDesign d) s =
      s.request 0x17 fun p => if isDesign d then p.replyDesign d .done else (p, .range, []) := rfl

@[simp] theorem exec_lookupRun (d r : Nat) (s : State) :
    exec (.lookupRun d r) s = s.request 0x18 fun p => p.lookupRun d r := rfl

@[simp] theorem exec_lookupStitches (d i n : Nat) (s : State) :
    exec (.lookupStitches d i n) s = s.request 0x19 fun p => p.lookupStitches d i n := rfl

@[simp] theorem exec_lookupOrdinal (d o : Nat) (s : State) :
    exec (.lookupOrdinal d o) s = s.request 0x1A fun p => p.lookupOrdinal d o := rfl

@[simp] theorem exec_lookupLibrary (s : State) :
    exec (.lookupLibrary) s = s.request 0x1B fun p => (p, .done, p.lib.items) := rfl

@[simp] theorem exec_amendHoop (xMin xMax yMin yMax : Int) (s : State) :
    exec (.amendHoop xMin xMax yMin yMax) s = s.request 0x20 fun p => p.amendHoop ⟨xMin, xMax, yMin, yMax⟩ := rfl

@[simp] theorem exec_lookupHoop (s : State) :
    exec (.lookupHoop) s = s.request 0x21 fun p => (p, .done, p.pos.hoop.items) := rfl

@[simp] theorem exec_home (s : State) :
    exec (.home) s = s.request 0x22 fun p => p.takeHome := rfl

@[simp] theorem exec_jog (mode : Nat) (x y : Int) (s : State) :
    exec (.jog mode x y) s = s.request 0x23 fun p => p.takeJog mode ⟨x, y⟩ := rfl

@[simp] theorem exec_lookupFrame (s : State) :
    exec (.lookupFrame) s = s.request 0x24 fun p => (p.observe, .done, p.observe.frameItems) := rfl

@[simp] theorem exec_lookupMachine (s : State) :
    exec (.lookupMachine) s =
      s.request 0x30 fun p =>
        let q := p.observe
        ({ q with port := { q.port with notices := Notices.none } }, .done,
          q.machineItems ++ num 1 q.port.notices.byte) := rfl

@[simp] theorem exec_amendMachine (speed : Given Nat) (s : State) :
    exec (.amendMachine speed) s = s.request 0x31 fun p => p.amendMachine speed := rfl

@[simp] theorem exec_activate (d : Nat) (originX originY : Int) (orientation mirror scaleX scaleY discard : Nat)
    (s : State) :
    exec (.activate d originX originY orientation mirror scaleX scaleY discard) s =
      s.request 0x32 fun p =>
        p.activate d (placement? originX originY orientation mirror scaleX scaleY) discard := rfl

@[simp] theorem exec_deactivate (discard : Nat) (s : State) :
    exec (.deactivate discard) s = s.request 0x33 fun p => p.deactivate discard := rfl

@[simp] theorem exec_start (s : State) :
    exec (.start) s = s.request 0x34 fun p => p.startRequest := rfl

@[simp] theorem exec_arm (on : Nat) (s : State) :
    exec (.arm on) s = s.request 0x35 fun p => p.arm on := rfl

@[simp] theorem exec_stop (n : Nat) (s : State) :
    exec (.stop n) s = s.request 0x36 fun p => p.stopRequest n := rfl

@[simp] theorem exec_back (n : Nat) (s : State) :
    exec (.back n) s = s.request 0x37 fun p => p.travel false n := rfl

@[simp] theorem exec_fwd (n : Nat) (s : State) :
    exec (.fwd n) s = s.request 0x38 fun p => p.travel true n := rfl

@[simp] theorem exec_rewind (discard : Nat) (s : State) :
    exec (.rewind discard) s = s.request 0x39 fun p => p.rewind discard := rfl

@[simp] theorem exec_clear (s : State) :
    exec (.clear) s = s.request 0x3A fun p => p.clearRequest := rfl

@[simp] theorem exec_repair (k : Nat) (s : State) :
    exec (.repair k) s = s.request 0x3B fun p => p.repairRequest k := rfl

@[simp] theorem exec_restart (s : State) :
    exec (.restart) s = s.request 0x3C fun p => (p.restartAll, .done, p.restartAll.machineItems) := rfl

@[simp] theorem exec_lookupPlan (s : State) :
    exec (.lookupPlan) s = s.request 0x40 fun p => (p, .done, p.plan.items) := rfl

@[simp] theorem exec_lookupShaft (s : State) :
    exec (.lookupShaft) s = s.request 0x41 fun p => (p, .done, p.shaftItems) := rfl

@[simp] theorem exec_lookupChain (s : State) :
    exec (.lookupChain) s = s.request 0x42 fun p => (p, .done, p.chainItems) := rfl

@[simp] theorem exec_amendMap (map unit : Nat) (pairs : List MapPair) (s : State) :
    exec (.amendMap map unit pairs) s = s.request 0x50 fun p => p.amendMap map unit pairs := rfl

@[simp] theorem exec_amendMapMode (mode : Nat) (s : State) :
    exec (.amendMapMode mode) s = s.request 0x51 fun p => p.amendMapMode mode := rfl

@[simp] theorem exec_strobe (map : Nat) (s : State) :
    exec (.strobe map) s = s.request 0x52 fun p => p.strobeRequest map := rfl

@[simp] theorem exec_automap (d map : Nat) (s : State) :
    exec (.automap d map) s = s.request 0x53 fun p => p.automap d map := rfl

@[simp] theorem exec_lookupMap (map unit : Nat) (s : State) :
    exec (.lookupMap map unit) s = s.request 0x54 fun p => p.lookupMap map unit := rfl

@[simp] theorem exec_lookupMaps (s : State) :
    exec (.lookupMaps) s = s.request 0x55 fun p => (p, .done, p.mapsItems) := rfl

@[simp] theorem exec_select (h n : Nat) (s : State) :
    exec (.select h n) s = s.request 0x60 fun p => p.selectRequest h n := rfl

@[simp] theorem exec_cancelChange (h : Nat) (s : State) :
    exec (.cancelChange h) s = s.request 0x61 fun p => p.cancelChange h := rfl

@[simp] theorem exec_lookupSelectors (s : State) :
    exec (.lookupSelectors) s = s.request 0x62 fun p => (p, .done, p.selectorsItems) := rfl

@[simp] theorem exec_amendThread (h n : Nat) (colour : Given Nat) (band : Given (Nat × Nat)) (state : Given Nat)
    (s : State) :
    exec (.amendThread h n colour band state) s = s.request 0x70 fun p => p.amendThread h n colour band state := rfl

@[simp] theorem exec_retireThread (h n : Nat) (s : State) :
    exec (.retireThread h n) s = s.request 0x71 fun p => p.retireThread h n := rfl

@[simp] theorem exec_lookupThread (h n : Nat) (s : State) :
    exec (.lookupThread h n) s =
      s.request 0x72 fun p => if isThread h n then (p, .done, (p.thread h n).items) else (p, .range, []) := rfl

@[simp] theorem exec_lookupThreads (h : Nat) (s : State) :
    exec (.lookupThreads h) s =
      s.request 0x73 fun p =>
        if isHead h then (p, .done, (p.threadsOf h).flatMap Thread.items) else (p, .range, []) := rfl

@[simp] theorem exec_addSample (angle heads cadence use : Nat) (s : State) :
    exec (.addSample angle heads cadence use) s = s.request 0x74 fun p => p.addSample angle heads cadence use := rfl

@[simp] theorem exec_retireSample (i : Nat) (s : State) :
    exec (.retireSample i) s = s.request 0x75 fun p => p.retireSample i := rfl

@[simp] theorem exec_clearSchedule (s : State) :
    exec (.clearSchedule) s =
      s.request 0x76 fun p => (p.setSchedule [], .done, (p.setSchedule []).scheduleItems) := rfl

@[simp] theorem exec_lookupSchedule (s : State) :
    exec (.lookupSchedule) s = s.request 0x77 fun p => (p, .done, p.scheduleItems) := rfl

@[simp] theorem exec_lookupSensing (h : Nat) (s : State) :
    exec (.lookupSensing h) s =
      s.request 0x78 fun p => if isHead h then (p, .done, p.sensingItems h) else (p, .range, []) := rfl

@[simp] theorem exec_amendHead (h : Nat) (fields : HeadFields) (s : State) :
    exec (.amendHead h fields) s = s.request 0x80 fun p => p.amendHead h fields := rfl

@[simp] theorem exec_amendClearFaults (h kinds : Nat) (s : State) :
    exec (.amendClearFaults h kinds) s = s.request 0x81 fun p => p.clearFaults h kinds := rfl

@[simp] theorem exec_amendClearJam (h : Nat) (s : State) :
    exec (.amendClearJam h) s = s.request 0x82 fun p => p.clearJam h := rfl

@[simp] theorem exec_park (h : Nat) (s : State) :
    exec (.park h) s = s.request 0x83 fun p => p.parkRequest h := rfl

@[simp] theorem exec_restoreHead (h : Nat) (s : State) :
    exec (.restoreHead h) s = s.request 0x84 fun p => p.restoreRequest h := rfl

@[simp] theorem exec_lookupHead (h : Nat) (s : State) :
    exec (.lookupHead h) s =
      s.request 0x85 fun p => if isHead h then (p, .done, p.headItems h) else (p, .range, []) := rfl

@[simp] theorem exec_lookupHeads (s : State) :
    exec (.lookupHeads) s = s.request 0x86 fun p => (p, .done, itemList 1 p.fittedHeads p.headItems) := rfl

@[simp] theorem exec_retireCase (k : Nat) (s : State) :
    exec (.retireCase k) s = s.request 0x90 fun p => p.retireCaseRequest k := rfl

@[simp] theorem exec_lookupCase (k : Nat) (s : State) :
    exec (.lookupCase k) s = s.request 0x91 fun p => p.lookupCase k := rfl

@[simp] theorem exec_lookupCases (s : State) :
    exec (.lookupCases) s = s.request 0x92 fun p => (p, .done, p.casesItems) := rfl

@[simp] theorem exec_amendParameters (fields : ParamFields) (s : State) :
    exec (.amendParameters fields) s = s.request 0xA0 fun p => p.amendParameters fields := rfl

@[simp] theorem exec_lookupParameters (s : State) :
    exec (.lookupParameters) s = s.request 0xA1 fun p => (p, .done, p.par.items) := rfl

@[simp] theorem exec_fetch (bytes : Nat) (s : State) :
    exec (.fetch bytes) s =
      s.event fun p =>
        if bytes = 0 then p
        else
          { p with
            port := { p.port with sdo := if p.port.ready then p.port.shifted bytes else List.replicate bytes 0#8 } } :=
  rfl

@[simp] theorem exec_resetAssert (s : State) :
    exec (.resetAssert) s =
      .next
        { s with
          part := { s.part with
            port := { s.part.port with inReset := true, ready := false, sdo := [] }
            pos := { s.part.pos with dirX := false, dirY := false }
            shaft := s.part.shaft.disable
            chain := { s.part.chain with out := [] } } } := rfl

@[simp] theorem exec_resetRelease (s : State) :
    exec (.resetRelease) s =
      if s.part.port.inReset then .next { s with part := s.part.released } else .next s := rfl

@[simp] theorem exec_estopFall (s : State) :
    exec (.estopFall) s = s.lineEvent (fun l => { l with estop := false }) fun p => p.lock .estop := rfl

@[simp] theorem exec_startLineFall (s : State) :
    exec (.startLineFall) s = s.lineEvent (fun l => { l with start := false }) fun p => p.startLine := rfl

@[simp] theorem exec_stopLineFall (s : State) :
    exec (.stopLineFall) s =
      s.lineEvent (fun l => { l with stop := false }) fun p =>
        (p.orderStop p.par.stopLineCount .line .line).1 := rfl

@[simp] theorem exec_mapstrobeFall (mapsel : Bool) (s : State) :
    exec (.mapstrobeFall mapsel) s =
      s.lineEvent (fun l => { l with mapstrobe := false, mapsel := mapsel }) fun p =>
        p.takeStrobe .line (selectedMap mapsel) := rfl

@[simp] theorem exec_encoderCount (a b i : Bool) (elapsed : Nat) (s : State) :
    exec (.encoderCount a b i elapsed) s =
      State.event
        { s with
          part := { s.part with
            lines := { s.part.lines with encA := a, encB := b, encI := i }, now := s.part.now + elapsed } }
        fun p => p.encoderChange (pairChange s.part.lines.encA s.part.lines.encB a b) i := rfl

@[simp] theorem exec_drvFltFall (s : State) :
    exec (.drvFltFall) s =
      s.lineEvent (fun l => { l with drvFlt := false }) fun p =>
        if p.shaft.drive = .disabled then p else p.disableDrive.lock .drive := rfl

@[simp] theorem exec_homeSensorEdge (axis : Axis) (active : Bool) (s : State) :
    exec (.homeSensorEdge axis active) s =
      s.lineEvent
        (fun l => match axis with
          | .x => { l with xHome := !active }
          | .y => { l with yHome := !active })
        fun p => p.sensorEdge axis active := rfl

@[simp] theorem exec_headReport (frame : List Byte) (s : State) :
    exec (.headReport frame) s = s.event fun p => p.receive frame := rfl

@[simp] theorem exec_replySlotEnd (anyByte : Bool) (s : State) :
    exec (.replySlotEnd anyByte) s = s.event fun p => p.slotEnd anyByte := rfl

@[simp] theorem exec_idleExchange (s : State) :
    exec (.idleExchange) s = s.event fun p => p.idleExchange := rfl

@[simp] theorem exec_shaftStanding (s : State) :
    exec (.shaftStanding) s =
      s.event fun p =>
        if p.shaft.standing then p
        else
          let q := p.atLeast (p.shaft.lastCount + 100000)
          { q with shaft := q.shaft.stand, chain := { q.chain with openVoid := true } } := rfl

@[simp] theorem exec_positioningComplete (s : State) :
    exec (.positioningComplete) s =
      s.lineEvent (fun l => { l with drvPos := true }) fun p =>
        if p.shaft.mayComplete then ({ p with shaft := p.shaft.positioned } : Part).needleUpReport else p := rfl

@[simp] theorem exec_positioningTimeout (s : State) :
    exec (.positioningTimeout) s =
      s.event fun p =>
        if p.shaft.drive = .positioning then (p.atLeast (p.shaft.posSince.getD p.now + 2000000)).lock .positioning else p :=
  rfl

@[simp] theorem exec_indexWatchTrip (s : State) :
    exec (.indexWatchTrip) s = s.event fun p => if p.shaft.drive = .disabled then p else p.indexTrip := rfl

@[simp] theorem exec_reverseWatchTrip (s : State) :
    exec (.reverseWatchTrip) s = s.event fun p => if p.shaft.drive = .disabled then p else p.reverseTrip := rfl

@[simp] theorem exec_lost (h : Nat) (s : State) :
    exec (.lost h) s = s.event fun p => p.lostEvent h := rfl

@[simp] theorem exec_selectorDeadlineExpiry (h : Nat) (s : State) :
    exec (.selectorDeadlineExpiry h) s = s.event fun p => p.deadlinePassed h := rfl

@[simp] theorem exec_homeNotFound (axis : Axis) (s : State) :
    exec (.homeNotFound axis) s =
      s.event fun p => if p.pos.seekingOn axis then (p.homeMissed axis).searchDone else p := rfl

@[simp] theorem exec_tensionDeclared (h ordinal _needle : Nat) (s : State) :
    exec (.tensionDeclared h ordinal _needle) s = s.event fun p => p.tensionDeclared h ordinal := rfl

@[simp] theorem exec_breakDeclared (h ordinal needle : Nat) (s : State) :
    exec (.breakDeclared h ordinal needle) s = s.event fun p => p.breakDeclared h ordinal needle := rfl

@[simp] theorem exec_bobbinDeclared (h ordinal : Nat) (s : State) :
    exec (.bobbinDeclared h ordinal) s = s.event fun p => p.bobbinDeclared h ordinal := rfl

@[simp] theorem exec_sealComplete (s : State) :
    exec (.sealComplete) s =
      s.event fun p =>
        match p.lib.sealer with
        | some d => ({ p with lib := p.lib.completeSeal d } : Part).notice .sealed
        | none => p := rfl

@[simp] theorem exec_subMoveComplete (s : State) :
    exec (.subMoveComplete) s = s.event fun p => p.subMoveComplete := rfl

@[simp] theorem exec_traverseLegComplete (s : State) :
    exec (.traverseLegComplete) s =
      s.event fun p =>
        match p.pos.leg with
        | some m => ({ p with pos := p.pos.arrive m.target } : Part).legDone
        | none => p := rfl

@[simp] theorem exec_malformedFrame (code : Nat) (s : State) :
    exec (.malformedFrame code) s = s.request code fun p => (p, .malformed, []) := rfl

end Sys2Proof.Machine
end

