-- ==== Sys2Proof/Laws/State.lean ====
section
/-! SUPPORT. The small lemmas of the state: what each named update leaves alone, one rewriting rule for each field, and
what entries counted from 1 read after a write. -/

namespace Sys2Proof.Machine

/-! ## What an update of one block leaves alone -/

@[simp] theorem Part.setHead_keeps (p : Part) (h : Nat) (r : Head) :
    (p.setHead h r).lib = p.lib ∧ (p.setHead h r).pos = p.pos ∧ (p.setHead h r).plan = p.plan ∧
    (p.setHead h r).shaft = p.shaft ∧ (p.setHead h r).chain = p.chain ∧ (p.setHead h r).ctl = p.ctl ∧
    (p.setHead h r).maps = p.maps ∧ (p.setHead h r).arb = p.arb ∧ (p.setHead h r).mon = p.mon ∧
    (p.setHead h r).cases = p.cases ∧ (p.setHead h r).par = p.par ∧ (p.setHead h r).port = p.port ∧
    (p.setHead h r).lines = p.lines ∧ (p.setHead h r).now = p.now ∧ (p.setHead h r).free = p.free := by
  repeat' constructor

@[simp] theorem Part.setLink_keeps (p : Part) (h : Nat) (r : HeadLink) :
    (p.setLink h r).lib = p.lib ∧ (p.setLink h r).pos = p.pos ∧ (p.setLink h r).plan = p.plan ∧
    (p.setLink h r).shaft = p.shaft ∧ (p.setLink h r).chain.seq = p.chain.seq ∧
    (p.setLink h r).chain.lastKind = p.chain.lastKind ∧ (p.setLink h r).chain.lastStart = p.chain.lastStart ∧
    (p.setLink h r).chain.exchange = p.chain.exchange ∧ (p.setLink h r).chain.openVoid = p.chain.openVoid ∧
    (p.setLink h r).chain.closingVoid = p.chain.closingVoid ∧ (p.setLink h r).chain.out = p.chain.out ∧
    (p.setLink h r).ctl = p.ctl ∧ (p.setLink h r).maps = p.maps ∧ (p.setLink h r).arb = p.arb ∧
    (p.setLink h r).mon = p.mon ∧ (p.setLink h r).heads = p.heads ∧ (p.setLink h r).cases = p.cases ∧
    (p.setLink h r).par = p.par ∧ (p.setLink h r).port = p.port ∧ (p.setLink h r).lines = p.lines ∧
    (p.setLink h r).now = p.now ∧ (p.setLink h r).free = p.free := by
  repeat' constructor

@[simp] theorem Part.setSelector_keeps (p : Part) (h : Nat) (r : Selector) :
    (p.setSelector h r).lib = p.lib ∧ (p.setSelector h r).pos = p.pos ∧ (p.setSelector h r).plan = p.plan ∧
    (p.setSelector h r).shaft = p.shaft ∧ (p.setSelector h r).chain = p.chain ∧ (p.setSelector h r).ctl = p.ctl ∧
    (p.setSelector h r).maps = p.maps ∧ (p.setSelector h r).arb.requests = p.arb.requests ∧
    (p.setSelector h r).arb.slots = p.arb.slots ∧ (p.setSelector h r).arb.change = p.arb.change ∧
    (p.setSelector h r).arb.nextNumber = p.arb.nextNumber ∧ (p.setSelector h r).mon = p.mon ∧
    (p.setSelector h r).heads = p.heads ∧ (p.setSelector h r).cases = p.cases ∧ (p.setSelector h r).par = p.par ∧
    (p.setSelector h r).port = p.port ∧ (p.setSelector h r).lines = p.lines ∧ (p.setSelector h r).now = p.now ∧
    (p.setSelector h r).free = p.free := by
  repeat' constructor

@[simp] theorem Part.setChangeRequest_keeps (p : Part) (h : Nat) (r : ChangeRequest) :
    (p.setChangeRequest h r).lib = p.lib ∧ (p.setChangeRequest h r).pos = p.pos ∧
    (p.setChangeRequest h r).plan = p.plan ∧ (p.setChangeRequest h r).shaft = p.shaft ∧
    (p.setChangeRequest h r).chain = p.chain ∧ (p.setChangeRequest h r).ctl = p.ctl ∧
    (p.setChangeRequest h r).maps = p.maps ∧ (p.setChangeRequest h r).arb.selectors = p.arb.selectors ∧
    (p.setChangeRequest h r).arb.slots = p.arb.slots ∧ (p.setChangeRequest h r).arb.change = p.arb.change ∧
    (p.setChangeRequest h r).arb.nextNumber = p.arb.nextNumber ∧ (p.setChangeRequest h r).mon = p.mon ∧
    (p.setChangeRequest h r).heads = p.heads ∧ (p.setChangeRequest h r).cases = p.cases ∧
    (p.setChangeRequest h r).par = p.par ∧ (p.setChangeRequest h r).port = p.port ∧
    (p.setChangeRequest h r).lines = p.lines ∧ (p.setChangeRequest h r).now = p.now ∧
    (p.setChangeRequest h r).free = p.free := by
  repeat' constructor

@[simp] theorem Part.setSensing_keeps (p : Part) (h : Nat) (r : Sensing) :
    (p.setSensing h r).lib = p.lib ∧ (p.setSensing h r).pos = p.pos ∧ (p.setSensing h r).plan = p.plan ∧
    (p.setSensing h r).shaft = p.shaft ∧ (p.setSensing h r).chain = p.chain ∧ (p.setSensing h r).ctl = p.ctl ∧
    (p.setSensing h r).maps = p.maps ∧ (p.setSensing h r).arb = p.arb ∧
    (p.setSensing h r).mon.threads = p.mon.threads ∧ (p.setSensing h r).mon.schedule = p.mon.schedule ∧
    (p.setSensing h r).mon.lengths = p.mon.lengths ∧ (p.setSensing h r).heads = p.heads ∧
    (p.setSensing h r).cases = p.cases ∧ (p.setSensing h r).par = p.par ∧ (p.setSensing h r).port = p.port ∧
    (p.setSensing h r).lines = p.lines ∧ (p.setSensing h r).now = p.now ∧ (p.setSensing h r).free = p.free := by
  repeat' constructor

@[simp] theorem Part.setThread_keeps (p : Part) (h n : Nat) (r : Thread) :
    (p.setThread h n r).lib = p.lib ∧ (p.setThread h n r).pos = p.pos ∧ (p.setThread h n r).plan = p.plan ∧
    (p.setThread h n r).shaft = p.shaft ∧ (p.setThread h n r).chain = p.chain ∧ (p.setThread h n r).ctl = p.ctl ∧
    (p.setThread h n r).maps = p.maps ∧ (p.setThread h n r).arb = p.arb ∧
    (p.setThread h n r).mon.schedule = p.mon.schedule ∧ (p.setThread h n r).mon.sensing = p.mon.sensing ∧
    (p.setThread h n r).mon.lengths = p.mon.lengths ∧ (p.setThread h n r).heads = p.heads ∧
    (p.setThread h n r).cases = p.cases ∧ (p.setThread h n r).par = p.par ∧ (p.setThread h n r).port = p.port ∧
    (p.setThread h n r).lines = p.lines ∧ (p.setThread h n r).now = p.now ∧ (p.setThread h n r).free = p.free := by
  repeat' constructor

@[simp] theorem Part.notice_keeps (p : Part) (k : Notice) :
    (p.notice k).lib = p.lib ∧ (p.notice k).pos = p.pos ∧ (p.notice k).plan = p.plan ∧ (p.notice k).shaft = p.shaft ∧
    (p.notice k).chain = p.chain ∧ (p.notice k).ctl = p.ctl ∧ (p.notice k).maps = p.maps ∧ (p.notice k).arb = p.arb ∧
    (p.notice k).mon = p.mon ∧ (p.notice k).heads = p.heads ∧ (p.notice k).cases = p.cases ∧
    (p.notice k).par = p.par ∧ (p.notice k).port.ready = p.port.ready ∧ (p.notice k).port.inReset = p.port.inReset ∧
    (p.notice k).port.held = p.port.held ∧ (p.notice k).port.sdo = p.port.sdo ∧ (p.notice k).lines = p.lines ∧
    (p.notice k).now = p.now ∧ (p.notice k).free = p.free := by
  repeat' constructor

@[simp] theorem Part.hold_keeps (p : Part) (c : Nat) (st : Status) (x : List Item) :
    (p.hold c st x).lib = p.lib ∧ (p.hold c st x).pos = p.pos ∧ (p.hold c st x).plan = p.plan ∧
    (p.hold c st x).shaft = p.shaft ∧ (p.hold c st x).chain = p.chain ∧ (p.hold c st x).ctl = p.ctl ∧
    (p.hold c st x).maps = p.maps ∧ (p.hold c st x).arb = p.arb ∧ (p.hold c st x).mon = p.mon ∧
    (p.hold c st x).heads = p.heads ∧ (p.hold c st x).cases = p.cases ∧ (p.hold c st x).par = p.par ∧
    (p.hold c st x).port.ready = p.port.ready ∧ (p.hold c st x).port.inReset = p.port.inReset ∧
    (p.hold c st x).port.notices = p.port.notices ∧ (p.hold c st x).port.sdo = [] ∧
    (p.hold c st x).lines = p.lines ∧ (p.hold c st x).now = p.now ∧ (p.hold c st x).free = p.free := by
  repeat' constructor

@[simp] theorem Part.atLeast_keeps (p : Part) (t : Nat) :
    (p.atLeast t).lib = p.lib ∧ (p.atLeast t).pos = p.pos ∧ (p.atLeast t).plan = p.plan ∧
    (p.atLeast t).shaft = p.shaft ∧ (p.atLeast t).chain = p.chain ∧ (p.atLeast t).ctl = p.ctl ∧
    (p.atLeast t).maps = p.maps ∧ (p.atLeast t).arb = p.arb ∧ (p.atLeast t).mon = p.mon ∧
    (p.atLeast t).heads = p.heads ∧ (p.atLeast t).cases = p.cases ∧ (p.atLeast t).par = p.par ∧
    (p.atLeast t).port = p.port ∧ (p.atLeast t).lines = p.lines ∧ (p.atLeast t).free = p.free := by
  repeat' constructor

@[simp] theorem Part.putFrame_keeps (p : Part) (f : ChainFrame) :
    (p.putFrame f).lib = p.lib ∧ (p.putFrame f).pos = p.pos ∧ (p.putFrame f).plan = p.plan ∧
    (p.putFrame f).shaft = p.shaft ∧ (p.putFrame f).chain.seq = p.chain.seq ∧
    (p.putFrame f).chain.lastKind = p.chain.lastKind ∧ (p.putFrame f).chain.lastStart = p.chain.lastStart ∧
    (p.putFrame f).chain.exchange = p.chain.exchange ∧ (p.putFrame f).chain.openVoid = p.chain.openVoid ∧
    (p.putFrame f).chain.closingVoid = p.chain.closingVoid ∧ (p.putFrame f).chain.links = p.chain.links ∧
    (p.putFrame f).ctl = p.ctl ∧ (p.putFrame f).maps = p.maps ∧ (p.putFrame f).arb = p.arb ∧
    (p.putFrame f).mon = p.mon ∧ (p.putFrame f).heads = p.heads ∧ (p.putFrame f).cases = p.cases ∧
    (p.putFrame f).par = p.par ∧ (p.putFrame f).port = p.port ∧ (p.putFrame f).lines = p.lines ∧
    (p.putFrame f).now = p.now ∧ (p.putFrame f).free = p.free := by
  repeat' constructor

@[simp] theorem Part.handDemand_keeps (p : Part) (d : Nat) :
    (p.handDemand d).lib = p.lib ∧ (p.handDemand d).pos = p.pos ∧ (p.handDemand d).plan = p.plan ∧
    (p.handDemand d).shaft.angle = p.shaft.angle ∧ (p.handDemand d).shaft.reverse = p.shaft.reverse ∧
    (p.handDemand d).shaft.lastIndex = p.shaft.lastIndex ∧ (p.handDemand d).shaft.synced = p.shaft.synced ∧
    (p.handDemand d).shaft.correction = p.shaft.correction ∧ (p.handDemand d).shaft.indexCount = p.shaft.indexCount ∧
    (p.handDemand d).shaft.reverseRun = p.shaft.reverseRun ∧ (p.handDemand d).shaft.spentStart = p.shaft.spentStart ∧
    (p.handDemand d).shaft.spentCommit = p.shaft.spentCommit ∧
    (p.handDemand d).shaft.spentExchange = p.shaft.spentExchange ∧
    (p.handDemand d).shaft.spentTrim = p.shaft.spentTrim ∧ (p.handDemand d).shaft.startAngle = p.shaft.startAngle ∧
    (p.handDemand d).shaft.speed = p.shaft.speed ∧ (p.handDemand d).shaft.standing = p.shaft.standing ∧
    (p.handDemand d).shaft.lastQuarter = p.shaft.lastQuarter ∧ (p.handDemand d).shaft.lastCount = p.shaft.lastCount ∧
    (p.handDemand d).shaft.drive = p.shaft.drive ∧ (p.handDemand d).shaft.runWaiting = p.shaft.runWaiting ∧
    (p.handDemand d).shaft.posSince = p.shaft.posSince ∧ (p.handDemand d).shaft.lastFault = p.shaft.lastFault ∧
    (p.handDemand d).chain = p.chain ∧ (p.handDemand d).ctl = p.ctl ∧ (p.handDemand d).maps = p.maps ∧
    (p.handDemand d).arb = p.arb ∧ (p.handDemand d).mon = p.mon ∧ (p.handDemand d).heads = p.heads ∧
    (p.handDemand d).cases = p.cases ∧ (p.handDemand d).par = p.par ∧ (p.handDemand d).port = p.port ∧
    (p.handDemand d).lines = p.lines ∧ (p.handDemand d).now = p.now ∧ (p.handDemand d).free = p.free := by
  repeat' constructor

@[simp] theorem Part.enter_keeps (p : Part) (st : CtlState) :
    (p.enter st).lib = p.lib ∧ (p.enter st).pos = p.pos ∧ (p.enter st).plan.queue = p.plan.queue ∧
    (p.enter st).plan.fill = p.plan.fill ∧ (p.enter st).plan.stop = p.plan.stop ∧
    (p.enter st).plan.demand = p.plan.demand ∧ (p.enter st).plan.prev = p.plan.prev ∧
    (p.enter st).plan.requested = p.plan.requested ∧ (p.enter st).shaft = p.shaft ∧ (p.enter st).chain = p.chain ∧
    (p.enter st).ctl.phase = p.ctl.phase ∧ (p.enter st).ctl.cause = p.ctl.cause ∧
    (p.enter st).ctl.pending = p.ctl.pending ∧ (p.enter st).ctl.origin = p.ctl.origin ∧
    (p.enter st).ctl.lockCause = p.ctl.lockCause ∧ (p.enter st).ctl.lockedFrom = p.ctl.lockedFrom ∧
    (p.enter st).ctl.design = p.ctl.design ∧ (p.enter st).ctl.c = p.ctl.c ∧ (p.enter st).ctl.slot = p.ctl.slot ∧
    (p.enter st).ctl.change = p.ctl.change ∧ (p.enter st).ctl.armed = p.ctl.armed ∧
    (p.enter st).ctl.travel = p.ctl.travel ∧ (p.enter st).ctl.repair = p.ctl.repair ∧ (p.enter st).maps = p.maps ∧
    (p.enter st).arb = p.arb ∧ (p.enter st).mon = p.mon ∧ (p.enter st).heads = p.heads ∧
    (p.enter st).cases = p.cases ∧ (p.enter st).par = p.par ∧ (p.enter st).port = p.port ∧
    (p.enter st).lines = p.lines ∧ (p.enter st).now = p.now ∧ (p.enter st).free = p.free := by
  repeat' constructor

@[simp] theorem Part.keepSpeed_keeps (p q : Part) :
    (p.keepSpeed q).lib = q.lib ∧ (p.keepSpeed q).pos = q.pos ∧ (p.keepSpeed q).shaft = q.shaft ∧
    (p.keepSpeed q).chain = q.chain ∧ (p.keepSpeed q).ctl = q.ctl ∧ (p.keepSpeed q).maps = q.maps ∧
    (p.keepSpeed q).arb = q.arb ∧ (p.keepSpeed q).mon = q.mon ∧ (p.keepSpeed q).heads = q.heads ∧
    (p.keepSpeed q).cases = q.cases ∧ (p.keepSpeed q).par = q.par ∧ (p.keepSpeed q).port = q.port ∧
    (p.keepSpeed q).lines = q.lines ∧ (p.keepSpeed q).now = q.now ∧ (p.keepSpeed q).free = q.free ∧
    (p.keepSpeed q).plan.queue = q.plan.queue ∧ (p.keepSpeed q).plan.fill = q.plan.fill ∧
    (p.keepSpeed q).plan.stop = q.plan.stop ∧ (p.keepSpeed q).plan.demand = q.plan.demand ∧
    (p.keepSpeed q).plan.prev = q.plan.prev ∧ (p.keepSpeed q).plan.requested = q.plan.requested ∧
    (p.keepSpeed q).plan.vSet = p.plan.vSet := by
  repeat' constructor

@[simp] theorem Part.setCase_keeps (p : Part) (k : Nat) (r : Option Case) :
    (p.setCase k r).lib = p.lib ∧ (p.setCase k r).pos = p.pos ∧ (p.setCase k r).plan = p.plan ∧
    (p.setCase k r).shaft = p.shaft ∧ (p.setCase k r).chain = p.chain ∧ (p.setCase k r).ctl = p.ctl ∧
    (p.setCase k r).maps = p.maps ∧ (p.setCase k r).arb = p.arb ∧ (p.setCase k r).mon = p.mon ∧
    (p.setCase k r).heads = p.heads ∧ (p.setCase k r).cases.marks = p.cases.marks ∧ (p.setCase k r).par = p.par ∧
    (p.setCase k r).port = p.port ∧ (p.setCase k r).lines = p.lines ∧ (p.setCase k r).now = p.now ∧
    (p.setCase k r).free = p.free := by
  repeat' constructor

@[simp] theorem Part.setCur_keeps (p : Part) (c : Nat) :
    (p.setCur c).lib = p.lib ∧ (p.setCur c).pos = p.pos ∧ (p.setCur c).plan = p.plan ∧ (p.setCur c).shaft = p.shaft ∧
    (p.setCur c).chain = p.chain ∧ (p.setCur c).ctl.state = p.ctl.state ∧ (p.setCur c).ctl.phase = p.ctl.phase ∧
    (p.setCur c).ctl.cause = p.ctl.cause ∧ (p.setCur c).ctl.pending = p.ctl.pending ∧
    (p.setCur c).ctl.origin = p.ctl.origin ∧ (p.setCur c).ctl.lockCause = p.ctl.lockCause ∧
    (p.setCur c).ctl.lockedFrom = p.ctl.lockedFrom ∧ (p.setCur c).ctl.design = p.ctl.design ∧
    (p.setCur c).ctl.slot = p.ctl.slot ∧ (p.setCur c).ctl.change = p.ctl.change ∧
    (p.setCur c).ctl.armed = p.ctl.armed ∧ (p.setCur c).ctl.travel = p.ctl.travel ∧
    (p.setCur c).ctl.repair = p.ctl.repair ∧ (p.setCur c).maps = p.maps ∧ (p.setCur c).arb = p.arb ∧
    (p.setCur c).mon = p.mon ∧ (p.setCur c).heads = p.heads ∧ (p.setCur c).cases = p.cases ∧
    (p.setCur c).par = p.par ∧ (p.setCur c).port = p.port ∧ (p.setCur c).lines = p.lines ∧ (p.setCur c).now = p.now ∧
    (p.setCur c).free = p.free := by
  repeat' constructor

@[simp] theorem Part.setRepair_keeps (p : Part) (r : Repair) :
    (p.setRepair r).lib = p.lib ∧ (p.setRepair r).pos = p.pos ∧ (p.setRepair r).plan = p.plan ∧
    (p.setRepair r).shaft = p.shaft ∧ (p.setRepair r).chain = p.chain ∧ (p.setRepair r).ctl.state = p.ctl.state ∧
    (p.setRepair r).ctl.phase = p.ctl.phase ∧ (p.setRepair r).ctl.cause = p.ctl.cause ∧
    (p.setRepair r).ctl.pending = p.ctl.pending ∧ (p.setRepair r).ctl.origin = p.ctl.origin ∧
    (p.setRepair r).ctl.lockCause = p.ctl.lockCause ∧ (p.setRepair r).ctl.lockedFrom = p.ctl.lockedFrom ∧
    (p.setRepair r).ctl.design = p.ctl.design ∧ (p.setRepair r).ctl.c = p.ctl.c ∧
    (p.setRepair r).ctl.slot = p.ctl.slot ∧ (p.setRepair r).ctl.change = p.ctl.change ∧
    (p.setRepair r).ctl.armed = p.ctl.armed ∧ (p.setRepair r).ctl.travel = p.ctl.travel ∧
    (p.setRepair r).maps = p.maps ∧ (p.setRepair r).arb = p.arb ∧ (p.setRepair r).mon = p.mon ∧
    (p.setRepair r).heads = p.heads ∧ (p.setRepair r).cases = p.cases ∧ (p.setRepair r).par = p.par ∧
    (p.setRepair r).port = p.port ∧ (p.setRepair r).lines = p.lines ∧ (p.setRepair r).now = p.now ∧
    (p.setRepair r).free = p.free := by
  repeat' constructor

@[simp] theorem Part.setSchedule_keeps (p : Part) (l : List SampleEntry) :
    (p.setSchedule l).lib = p.lib ∧ (p.setSchedule l).pos = p.pos ∧ (p.setSchedule l).plan = p.plan ∧
    (p.setSchedule l).shaft = p.shaft ∧ (p.setSchedule l).chain = p.chain ∧ (p.setSchedule l).ctl = p.ctl ∧
    (p.setSchedule l).maps = p.maps ∧ (p.setSchedule l).arb = p.arb ∧ (p.setSchedule l).mon.threads = p.mon.threads ∧
    (p.setSchedule l).mon.sensing = p.mon.sensing ∧ (p.setSchedule l).mon.lengths = p.mon.lengths ∧
    (p.setSchedule l).heads = p.heads ∧ (p.setSchedule l).cases = p.cases ∧ (p.setSchedule l).par = p.par ∧
    (p.setSchedule l).port = p.port ∧ (p.setSchedule l).lines = p.lines ∧ (p.setSchedule l).now = p.now ∧
    (p.setSchedule l).free = p.free := by
  repeat' constructor

@[simp] theorem Part.disableDrive_keeps (p : Part) :
    (p.disableDrive).lib = p.lib ∧ (p.disableDrive).pos = p.pos ∧ (p.disableDrive).plan = p.plan ∧
    (p.disableDrive).shaft.angle = p.shaft.angle ∧ (p.disableDrive).shaft.reverse = p.shaft.reverse ∧
    (p.disableDrive).shaft.lastIndex = p.shaft.lastIndex ∧ (p.disableDrive).shaft.synced = p.shaft.synced ∧
    (p.disableDrive).shaft.correction = p.shaft.correction ∧ (p.disableDrive).shaft.spentStart = p.shaft.spentStart ∧
    (p.disableDrive).shaft.spentCommit = p.shaft.spentCommit ∧
    (p.disableDrive).shaft.spentExchange = p.shaft.spentExchange ∧
    (p.disableDrive).shaft.spentTrim = p.shaft.spentTrim ∧ (p.disableDrive).shaft.startAngle = p.shaft.startAngle ∧
    (p.disableDrive).shaft.speed = p.shaft.speed ∧ (p.disableDrive).shaft.standing = p.shaft.standing ∧
    (p.disableDrive).shaft.lastQuarter = p.shaft.lastQuarter ∧ (p.disableDrive).shaft.lastCount = p.shaft.lastCount ∧
    (p.disableDrive).shaft.lastFault = p.shaft.lastFault ∧ (p.disableDrive).chain = p.chain ∧
    (p.disableDrive).ctl = p.ctl ∧ (p.disableDrive).maps = p.maps ∧ (p.disableDrive).arb = p.arb ∧
    (p.disableDrive).mon = p.mon ∧ (p.disableDrive).heads = p.heads ∧ (p.disableDrive).cases = p.cases ∧
    (p.disableDrive).par = p.par ∧ (p.disableDrive).port = p.port ∧ (p.disableDrive).lines = p.lines ∧
    (p.disableDrive).now = p.now ∧ (p.disableDrive).free = p.free := by
  repeat' constructor

/-! ## The new value of the field an update writes -/

@[simp] theorem Part.notice_notices (p : Part) (k : Notice) : (p.notice k).port.notices = p.port.notices.raise k := rfl
@[simp] theorem Part.hold_held (p : Part) (c : Nat) (st : Status) (x : List Item) :
    (p.hold c st x).port.held = some ⟨c, st, x⟩ := rfl
@[simp] theorem Part.enter_state (p : Part) (st : CtlState) : (p.enter st).ctl.state = st := rfl
@[simp] theorem Part.setCur_c (p : Part) (c : Nat) : (p.setCur c).ctl.c = some c := rfl
@[simp] theorem Part.setCur_cur (p : Part) (c : Nat) : (p.setCur c).cur = c := rfl
@[simp] theorem Part.setRepair_repair (p : Part) (r : Repair) : (p.setRepair r).ctl.repair = some r := rfl
@[simp] theorem Part.handDemand_demand (p : Part) (d : Nat) : (p.handDemand d).shaft.demand = d := rfl
@[simp] theorem Part.putFrame_out (p : Part) (f : ChainFrame) : (p.putFrame f).chain.out = p.chain.out ++ [f] := rfl
@[simp] theorem Part.disableDrive_drive (p : Part) : p.disableDrive.shaft.drive = .disabled := rfl
@[simp] theorem Part.disableDrive_demand (p : Part) : p.disableDrive.shaft.demand = 0 := rfl
@[simp] theorem Part.setSchedule_schedule (p : Part) (l : List SampleEntry) : (p.setSchedule l).mon.schedule = l := rfl
@[simp] theorem State.put_part (s : State) (p : Part) : (s.put p).part = p := rfl
@[simp] theorem State.put_pending (s : State) (p : Part) : (s.put p).pending = s.pending := rfl
@[simp] theorem State.answered_part (s : State) (p : Part) (c : Nat) (st : Status) (x : List Item) :
    (s.answered p c st x).part = p.hold c st x := rfl
@[simp] theorem State.answered_pending (s : State) (p : Part) (c : Nat) (st : Status) (x : List Item) :
    (s.answered p c st x).pending = s.pending := rfl

/-! ## Entries counted from 1 -/

@[simp] theorem set1_length {α : Type} (l : List α) (i : Nat) (v : α) : (set1 l i v).length = l.length := by
  unfold set1; split <;> simp

/-- An entry reads as it was written. -/
theorem nth1_set1_same {α : Type} (l : List α) (d v : α) (i : Nat) (h1 : 1 ≤ i) (h2 : i ≤ l.length) :
    nth1 (set1 l i v) d i = v := by
  have h0 : i ≠ 0 := by omega
  have hl : i - 1 < l.length := by omega
  simp [nth1, set1, h0, List.getD, hl]

/-- Another entry reads as before. -/
theorem nth1_set1_other {α : Type} (l : List α) (d v : α) (i j : Nat) (h : j ≠ i) :
    nth1 (set1 l i v) d j = nth1 l d j := by
  unfold nth1 set1
  split
  · rfl
  · split
    · rfl
    · have : i - 1 ≠ j - 1 := by omega
      simp [List.getD, List.getElem?_set_ne this]

/-- Outside the list a write changes nothing. -/
theorem set1_outside {α : Type} (l : List α) (v : α) (i : Nat) (h : i = 0 ∨ l.length < i) : set1 l i v = l := by
  unfold set1
  split
  · rfl
  · exact List.set_eq_of_length_le (by omega)

theorem isHead_iff (h : Nat) : isHead h = true ↔ 1 ≤ h ∧ h ≤ 20 := by
  rw [isHead, Bool.and_eq_true, decide_eq_true_iff, decide_eq_true_iff, Config.headCount]

theorem mem_allHeads (h : Nat) : h ∈ allHeads ↔ isHead h = true := by
  simp only [allHeads, List.mem_map, List.mem_range, Config.headCount, isHead_iff]
  constructor
  · rintro ⟨a, ha, rfl⟩; omega
  · intro ⟨h1, h2⟩; exact ⟨h - 1, by omega, by omega⟩

theorem Part.head_setHead_same (p : Part) (h : Nat) (r : Head) (hh : isHead h = true) (hl : p.heads.length = 20) :
    (p.setHead h r).head h = r := by
  rw [isHead_iff] at hh
  exact nth1_set1_same _ _ _ _ hh.1 (by omega)

@[simp] theorem Part.head_setHead_other (p : Part) (h k : Nat) (r : Head) (hk : k ≠ h) :
    (p.setHead h r).head k = p.head k := nth1_set1_other _ _ _ _ _ hk

theorem Part.link_setLink_same (p : Part) (h : Nat) (r : HeadLink) (hh : isHead h = true)
    (hl : p.chain.links.length = 20) : (p.setLink h r).link h = r := by
  rw [isHead_iff] at hh
  exact nth1_set1_same _ _ _ _ hh.1 (by omega)

@[simp] theorem Part.link_setLink_other (p : Part) (h k : Nat) (r : HeadLink) (hk : k ≠ h) :
    (p.setLink h r).link k = p.link k := nth1_set1_other _ _ _ _ _ hk

theorem Part.selector_setSelector_same (p : Part) (h : Nat) (r : Selector) (hh : isHead h = true)
    (hl : p.arb.selectors.length = 20) : (p.setSelector h r).selector h = r := by
  rw [isHead_iff] at hh
  exact nth1_set1_same _ _ _ _ hh.1 (by omega)

@[simp] theorem Part.selector_setSelector_other (p : Part) (h k : Nat) (r : Selector) (hk : k ≠ h) :
    (p.setSelector h r).selector k = p.selector k := nth1_set1_other _ _ _ _ _ hk

theorem Part.changeRequest_setChangeRequest_same (p : Part) (h : Nat) (r : ChangeRequest) (hh : isHead h = true)
    (hl : p.arb.requests.length = 20) : (p.setChangeRequest h r).changeRequest h = r := by
  rw [isHead_iff] at hh
  exact nth1_set1_same _ _ _ _ hh.1 (by omega)

@[simp] theorem Part.changeRequest_setChangeRequest_other (p : Part) (h k : Nat) (r : ChangeRequest) (hk : k ≠ h) :
    (p.setChangeRequest h r).changeRequest k = p.changeRequest k := nth1_set1_other _ _ _ _ _ hk

theorem Part.sensing_setSensing_same (p : Part) (h : Nat) (r : Sensing) (hh : isHead h = true)
    (hl : p.mon.sensing.length = 20) : (p.setSensing h r).sensing h = r := by
  rw [isHead_iff] at hh
  exact nth1_set1_same _ _ _ _ hh.1 (by omega)

@[simp] theorem Part.sensing_setSensing_other (p : Part) (h k : Nat) (r : Sensing) (hk : k ≠ h) :
    (p.setSensing h r).sensing k = p.sensing k := nth1_set1_other _ _ _ _ _ hk

theorem Part.caseAt_setCase_same (p : Part) (k : Nat) (r : Option Case) (hk : k < p.cases.records.length) :
    (p.setCase k r).caseAt k = r := by simp [Part.setCase, Part.caseAt, List.getD, hk]

@[simp] theorem Part.caseAt_setCase_other (p : Part) (k j : Nat) (r : Option Case) (hj : j ≠ k) :
    (p.setCase k r).caseAt j = p.caseAt j := by
  simp [Part.setCase, Part.caseAt, List.getD, List.getElem?_set_ne (Ne.symm hj)]

/-! ## Reads across updates of other blocks -/

@[simp] theorem Part.reads_setHead (p : Part) (h : Nat) (r : Head) (k n : Nat) :
    (p.setHead h r).link k = p.link k ∧ (p.setHead h r).selector k = p.selector k ∧
    (p.setHead h r).changeRequest k = p.changeRequest k ∧ (p.setHead h r).sensing k = p.sensing k ∧
    (p.setHead h r).threadsOf k = p.threadsOf k ∧ (p.setHead h r).thread k n = p.thread k n ∧
    (p.setHead h r).caseAt k = p.caseAt k := by
  repeat' constructor

@[simp] theorem Part.reads_setLink (p : Part) (h : Nat) (r : HeadLink) (k n : Nat) :
    (p.setLink h r).head k = p.head k ∧ (p.setLink h r).selector k = p.selector k ∧
    (p.setLink h r).changeRequest k = p.changeRequest k ∧ (p.setLink h r).sensing k = p.sensing k ∧
    (p.setLink h r).threadsOf k = p.threadsOf k ∧ (p.setLink h r).thread k n = p.thread k n ∧
    (p.setLink h r).caseAt k = p.caseAt k := by
  repeat' constructor

@[simp] theorem Part.reads_setSelector (p : Part) (h : Nat) (r : Selector) (k n : Nat) :
    (p.setSelector h r).head k = p.head k ∧ (p.setSelector h r).link k = p.link k ∧
    (p.setSelector h r).changeRequest k = p.changeRequest k ∧ (p.setSelector h r).sensing k = p.sensing k ∧
    (p.setSelector h r).threadsOf k = p.threadsOf k ∧ (p.setSelector h r).thread k n = p.thread k n ∧
    (p.setSelector h r).caseAt k = p.caseAt k := by
  repeat' constructor

@[simp] theorem Part.reads_setChangeRequest (p : Part) (h : Nat) (r : ChangeRequest) (k n : Nat) :
    (p.setChangeRequest h r).head k = p.head k ∧ (p.setChangeRequest h r).link k = p.link k ∧
    (p.setChangeRequest h r).selector k = p.selector k ∧ (p.setChangeRequest h r).sensing k = p.sensing k ∧
    (p.setChangeRequest h r).threadsOf k = p.threadsOf k ∧ (p.setChangeRequest h r).thread k n = p.thread k n ∧
    (p.setChangeRequest h r).caseAt k = p.caseAt k := by
  repeat' constructor

@[simp] theorem Part.reads_setSensing (p : Part) (h : Nat) (r : Sensing) (k n : Nat) :
    (p.setSensing h r).head k = p.head k ∧ (p.setSensing h r).link k = p.link k ∧
    (p.setSensing h r).selector k = p.selector k ∧ (p.setSensing h r).changeRequest k = p.changeRequest k ∧
    (p.setSensing h r).threadsOf k = p.threadsOf k ∧ (p.setSensing h r).thread k n = p.thread k n ∧
    (p.setSensing h r).caseAt k = p.caseAt k := by
  repeat' constructor

@[simp] theorem Part.reads_putFrame (p : Part) (f : ChainFrame) (k n : Nat) :
    (p.putFrame f).head k = p.head k ∧ (p.putFrame f).link k = p.link k ∧ (p.putFrame f).selector k = p.selector k ∧
    (p.putFrame f).changeRequest k = p.changeRequest k ∧ (p.putFrame f).sensing k = p.sensing k ∧
    (p.putFrame f).threadsOf k = p.threadsOf k ∧ (p.putFrame f).thread k n = p.thread k n ∧
    (p.putFrame f).caseAt k = p.caseAt k := by
  repeat' constructor

@[simp] theorem Part.reads_notice (p : Part) (c : Notice) (k n : Nat) :
    (p.notice c).head k = p.head k ∧ (p.notice c).link k = p.link k ∧ (p.notice c).selector k = p.selector k ∧
    (p.notice c).changeRequest k = p.changeRequest k ∧ (p.notice c).sensing k = p.sensing k ∧
    (p.notice c).threadsOf k = p.threadsOf k ∧ (p.notice c).thread k n = p.thread k n ∧
    (p.notice c).caseAt k = p.caseAt k := by
  repeat' constructor

@[simp] theorem Part.reads_hold (p : Part) (c : Nat) (st : Status) (x : List Item) (k n : Nat) :
    (p.hold c st x).head k = p.head k ∧ (p.hold c st x).link k = p.link k ∧ (p.hold c st x).selector k = p.selector k ∧
    (p.hold c st x).changeRequest k = p.changeRequest k ∧ (p.hold c st x).sensing k = p.sensing k ∧
    (p.hold c st x).threadsOf k = p.threadsOf k ∧ (p.hold c st x).thread k n = p.thread k n ∧
    (p.hold c st x).caseAt k = p.caseAt k := by
  repeat' constructor

@[simp] theorem Part.reads_enter (p : Part) (st : CtlState) (k n : Nat) :
    (p.enter st).head k = p.head k ∧ (p.enter st).link k = p.link k ∧ (p.enter st).selector k = p.selector k ∧
    (p.enter st).changeRequest k = p.changeRequest k ∧ (p.enter st).sensing k = p.sensing k ∧
    (p.enter st).threadsOf k = p.threadsOf k ∧ (p.enter st).thread k n = p.thread k n ∧
    (p.enter st).caseAt k = p.caseAt k := by
  repeat' constructor

@[simp] theorem Part.reads_keepSpeed (p q : Part) (k n : Nat) :
    (p.keepSpeed q).head k = q.head k ∧ (p.keepSpeed q).link k = q.link k ∧ (p.keepSpeed q).selector k = q.selector k ∧
    (p.keepSpeed q).changeRequest k = q.changeRequest k ∧ (p.keepSpeed q).sensing k = q.sensing k ∧
    (p.keepSpeed q).threadsOf k = q.threadsOf k ∧ (p.keepSpeed q).thread k n = q.thread k n ∧
    (p.keepSpeed q).caseAt k = q.caseAt k := by
  repeat' constructor

end Sys2Proof.Machine
end

