-- ==== Sys2Proof/Laws/Frame.lean ====
section
/-! SUPPORT. The frame of the part's operations outside the library, the parameters and the link: each leaves the design
library, the parameter record, the active design's number and the port's READY and reset state as they were. -/

namespace Sys2Proof.Machine

/-- The second part has the library, the parameters, the active design, READY and the reset state of the first. -/
abbrev Part.Untouched (p q : Part) : Prop :=
  q.lib = p.lib ∧ q.par = p.par ∧ q.ctl.design = p.ctl.design ∧ q.port.ready = p.port.ready ∧
    q.port.inReset = p.port.inReset

theorem Part.untouched_refl (p : Part) : p.Untouched p := ⟨rfl, rfl, rfl, rfl, rfl⟩

theorem Part.untouched_trans {p q r : Part} (h : p.Untouched q) (k : q.Untouched r) : p.Untouched r :=
  ⟨k.1.trans h.1, k.2.1.trans h.2.1, k.2.2.1.trans h.2.2.1, k.2.2.2.1.trans h.2.2.2.1,
    k.2.2.2.2.trans h.2.2.2.2⟩

theorem foldl_untouched {α : Type} {f : Part → α → Part} (hf : ∀ (p : Part) (a : α), p.Untouched (f p a))
    (l : List α) (p : Part) :
    p.Untouched (l.foldl f p) := by
  induction l generalizing p with
  | nil => exact Part.untouched_refl p
  | cons a l ih => exact Part.untouched_trans (hf p a) (ih _)

theorem Part.forHeads_untouched {f : Part → Nat → Part} (hf : ∀ (p : Part) (h : Nat), p.Untouched (f p h))
    (hs : List Nat) (p : Part) :
    p.Untouched (p.forHeads hs f) := foldl_untouched hf hs p

theorem iterate_untouched {f : Part → Part} (hf : ∀ p : Part, p.Untouched (f p)) (k : Nat) (p : Part) :
    p.Untouched (iterate f k p) := by
  induction k generalizing p with
  | zero => exact Part.untouched_refl p
  | succ k ih => exact Part.untouched_trans (hf p) (ih _)

@[simp] theorem Part.observe_untouched (p : Part) : p.Untouched (Part.observe p) := by
  unfold Part.observe; split
  · exact Part.untouched_refl p
  · split <;> exact ⟨rfl, rfl, rfl, rfl, rfl⟩

@[simp] theorem Part.startLeg_untouched (p : Part) (target : Vec) : p.Untouched (Part.startLeg p target) :=
  ⟨rfl, rfl, rfl, rfl, rfl⟩

@[simp] theorem Part.startNetLeg_untouched (p : Part) (c : Nat) : p.Untouched (Part.startNetLeg p c) :=
  ⟨rfl, rfl, rfl, rfl, rfl⟩

@[simp] theorem Part.stopJog_untouched (p0 : Part) : p0.Untouched (Part.stopJog p0) := by
  unfold Part.stopJog; dsimp only; (repeat' split) <;> simp [Part.Untouched]

@[simp] theorem Part.startSearch_untouched (p : Part) : p.Untouched (Part.startSearch p) := ⟨rfl, rfl, rfl, rfl, rfl⟩

@[simp] theorem Part.homeEdge_untouched (p0 : Part) (axis : Axis) (active : Bool) :
    p0.Untouched (Part.homeEdge p0 axis active) := by
  unfold Part.homeEdge; dsimp only; (repeat' split) <;> simp [Part.Untouched]

@[simp] theorem Part.homeMissed_untouched (p0 : Part) (axis : Axis) : p0.Untouched (Part.homeMissed p0 axis) := by
  simp [Part.Untouched, Part.homeMissed]

@[simp] theorem Part.issueSubMove_untouched (p : Part) (steps target : Vec) (sewing : Bool) :
    p.Untouched (Part.issueSubMove p steps target sewing) := by
  unfold Part.issueSubMove; split <;> simp [Part.Untouched]

@[simp] theorem Part.commitMove_untouched (p : Part) (d : Vec) : p.Untouched (Part.commitMove p d) :=
  ⟨rfl, rfl, rfl, rfl, rfl⟩

@[simp] theorem Part.lockFrame_untouched (p0 : Part) : p0.Untouched (Part.lockFrame p0) := by
  unfold Part.lockFrame; dsimp only; (repeat' split) <;> simp [Part.Untouched]

@[simp] theorem Part.resumeMove_untouched (p : Part) : p.Untouched (Part.resumeMove p) := by
  unfold Part.resumeMove; (repeat' split) <;> simp [Part.Untouched]

@[simp] theorem Part.restartFrame_untouched (p0 : Part) : p0.Untouched (Part.restartFrame p0) := by
  simp [Part.Untouched, Part.restartFrame]

@[simp] theorem Part.handDemand_untouched (p : Part) (d : Nat) : p.Untouched (Part.handDemand p d) :=
  ⟨rfl, rfl, rfl, rfl, rfl⟩

@[simp] theorem Part.disableDrive_untouched (p : Part) : p.Untouched (Part.disableDrive p) :=
  ⟨rfl, rfl, rfl, rfl, rfl⟩

@[simp] theorem Part.runOrder_untouched (p : Part) : p.Untouched (Part.runOrder p).1 := by
  unfold Part.runOrder; (repeat' split) <;> simp [Part.Untouched]

@[simp] theorem Part.stopOrder_untouched (p : Part) : p.Untouched (Part.stopOrder p) := ⟨rfl, rfl, rfl, rfl, rfl⟩

@[simp] theorem Part.measure_untouched (p : Part) : p.Untouched (Part.measure p) := by
  unfold Part.measure; split
  · split
    · exact ⟨rfl, rfl, rfl, rfl, rfl⟩
    · split <;> exact ⟨rfl, rfl, rfl, rfl, rfl⟩
  · exact Part.untouched_refl p

@[simp] theorem Part.putFrame_untouched (p : Part) (f : ChainFrame) : p.Untouched (Part.putFrame p f) :=
  ⟨rfl, rfl, rfl, rfl, rfl⟩

@[simp] theorem Part.startExchange_untouched (p : Part) (k : ExchangeKind) :
    p.Untouched (Part.startExchange p k) := by
  unfold Part.startExchange; split <;> simp [Part.Untouched]

@[simp] theorem Part.sendCommand_untouched (k : ExchangeKind) (p : Part) (h : Nat) :
    p.Untouched (Part.sendCommand k p h) := by
  unfold Part.sendCommand; split <;> simp [Part.Untouched]

@[simp] theorem Part.commandPhase_untouched (p : Part) (x : Exchange) : p.Untouched (Part.commandPhase p x) := by
  exact Part.forHeads_untouched (Part.sendCommand_untouched x.kind) _ p

@[simp] theorem Part.revise_untouched (p : Part) (h : Nat) : p.Untouched (Part.revise p h) := by
  unfold Part.revise; (repeat' split) <;> simp [Part.Untouched]

@[simp] theorem Part.recordLatch_untouched (hold late : Bool) (p : Part) (h : Nat) :
    p.Untouched (Part.recordLatch hold late p h) := ⟨rfl, rfl, rfl, rfl, rfl⟩

@[simp] theorem Part.recordLatches_untouched (hold late : Bool) (hs : List Nat) (p : Part) :
    p.Untouched (p.forHeads hs (Part.recordLatch hold late)) := by
  exact Part.forHeads_untouched (Part.recordLatch_untouched hold late) hs p

@[simp] theorem Part.commitFrame_untouched (p : Part) (hold late : Bool) :
    p.Untouched (Part.commitFrame p hold late) := by
  simp [Part.Untouched, Part.commitFrame]

@[simp] theorem Part.trimFrame_untouched (p : Part) : p.Untouched (Part.trimFrame p) := ⟨rfl, rfl, rfl, rfl, rfl⟩

@[simp] theorem Part.takeSteps_untouched (p : Part) (d : Vec) : p.Untouched (Part.takeSteps p d).1 :=
  ⟨rfl, rfl, rfl, rfl, rfl⟩

@[simp] theorem Part.takeSplit_untouched (p : Part) (f : FillPoint) (sv : Served) :
    p.Untouched (Part.takeSplit p f sv).1 := by
  unfold Part.takeSplit; split <;> simp [Part.Untouched]

@[simp] theorem Part.appendPair_untouched (p0 : Part) (f : FillPoint) (sv : Served) :
    p0.Untouched (Part.appendPair p0 f sv) := by
  unfold Part.appendPair; dsimp only; (repeat' split) <;> simp [Part.Untouched]

@[simp] theorem Part.fillOne_untouched (p : Part) : p.Untouched (Part.fillOne p) := by
  unfold Part.fillOne; (repeat' split) <;> simp [Part.Untouched]

@[simp] theorem Part.fillQueue_untouched (p : Part) : p.Untouched (Part.fillQueue p) := by
  unfold Part.fillQueue
  exact iterate_untouched Part.fillOne_untouched _ p

@[simp] theorem Part.runLookAhead_untouched (p : Part) : p.Untouched (Part.runLookAhead p) :=
  ⟨rfl, rfl, rfl, rfl, rfl⟩

@[simp] theorem Part.firstDemand_untouched (p : Part) : p.Untouched (Part.firstDemand p) := ⟨rfl, rfl, rfl, rfl, rfl⟩

@[simp] theorem Part.controlledStop_untouched (p : Part) : p.Untouched (Part.controlledStop p) := by
  unfold Part.controlledStop; (repeat' split) <;> simp [Part.Untouched]

@[simp] theorem Part.nextDemand_untouched (p : Part) : p.Untouched (Part.nextDemand p) := by
  unfold Part.nextDemand; split <;> simp [Part.Untouched]

@[simp] theorem Part.lateDemand_untouched (p : Part) : p.Untouched (Part.lateDemand p) := ⟨rfl, rfl, rfl, rfl, rfl⟩

@[simp] theorem Part.flush_untouched (p : Part) : p.Untouched (Part.flush p) := ⟨rfl, rfl, rfl, rfl, rfl⟩

@[simp] theorem Part.beginFill_untouched (p : Part) (o : Nat) : p.Untouched (Part.beginFill p o) := by
  simp [Part.Untouched, Part.beginFill]

@[simp] theorem Part.countStop_untouched (p : Part) (n : Nat) (origin : StopOrigin) :
    p.Untouched (Part.countStop p n origin).1 := by
  unfold Part.countStop; dsimp only; (repeat' split) <;> simp [Part.Untouched]

@[simp] theorem Part.enter_untouched (p : Part) (st : CtlState) : p.Untouched (Part.enter p st) :=
  ⟨rfl, rfl, rfl, rfl, rfl⟩

@[simp] theorem Part.pend_untouched (p : Part) (c : Pending) : p.Untouched (Part.pend p c) :=
  ⟨rfl, rfl, rfl, rfl, rfl⟩

@[simp] theorem Part.slowDown_untouched (p : Part) (c : Pending) : p.Untouched (Part.slowDown p c) :=
  ⟨rfl, rfl, rfl, rfl, rfl⟩

@[simp] theorem Part.endTravel_untouched (p : Part) (cause : Option Cause) :
    p.Untouched (Part.endTravel p cause) := by
  unfold Part.endTravel; split <;> simp [Part.Untouched]

@[simp] theorem Part.askStop_untouched (p : Part) (c : Pending) : p.Untouched (Part.askStop p c) := by
  unfold Part.askStop; (repeat' split) <;> simp [Part.Untouched]

@[simp] theorem Part.orderStop_untouched (p : Part) (n : Nat) (c : Pending) (g : StopOrigin) :
    p.Untouched (Part.orderStop p n c g).1 := by
  unfold Part.orderStop; (repeat' split) <;> simp [Part.Untouched]

@[simp] theorem Part.setCase_untouched (p : Part) (k : Nat) (r : Option Case) : p.Untouched (Part.setCase p k r) :=
  ⟨rfl, rfl, rfl, rfl, rfl⟩

@[simp] theorem Part.retireCase_untouched (p : Part) (k : Nat) : p.Untouched (Part.retireCase p k) :=
  ⟨rfl, rfl, rfl, rfl, rfl⟩

@[simp] theorem Part.absorbOne_untouched (k : Nat) (takes : Nat → Bool) (p : Part) (j : Nat) :
    p.Untouched (Part.absorbOne k takes p j) := by
  unfold Part.absorbOne; (repeat' split) <;> simp [Part.Untouched]

@[simp] theorem Part.absorb_untouched (p : Part) (k : Nat) (takes : Nat → Bool) :
    p.Untouched (Part.absorb p k takes) := by
  unfold Part.absorb
  exact foldl_untouched (Part.absorbOne_untouched k takes) _ p

@[simp] theorem Part.supersedeOne_untouched (h d : Nat) (takes : Case → Bool) (p : Part) (j : Nat) :
    p.Untouched (Part.supersedeOne h d takes p j) := by
  unfold Part.supersedeOne; (repeat' split) <;> simp [Part.Untouched]

@[simp] theorem Part.supersede_untouched (p : Part) (h d : Nat) (takes : Case → Bool) :
    p.Untouched (Part.supersede p h d takes) := by
  unfold Part.supersede
  exact foldl_untouched (Part.supersedeOne_untouched h d takes) _ p

@[simp] theorem Part.settleOpen_untouched (p : Part) (k : Nat) : p.Untouched (Part.settleOpen p k) := by
  unfold Part.settleOpen; dsimp only; (repeat' split) <;> simp [Part.Untouched]

@[simp] theorem Part.openCase_untouched (p : Part) (h o : Nat) (f : Option Nat) :
    p.Untouched (Part.openCase p h o f) := by
  unfold Part.openCase; (repeat' split) <;> simp [Part.Untouched]

@[simp] theorem Part.reopenBelow_untouched (p : Part) (k o : Nat) (r : Case) :
    p.Untouched (Part.reopenBelow p k o r) := by
  unfold Part.reopenBelow; (repeat' split) <;> simp [Part.Untouched]

@[simp] theorem Part.closeCase_untouched (p : Part) (x k : Nat) : p.Untouched (Part.closeCase p x k) := by
  unfold Part.closeCase; dsimp only; (repeat' split) <;> simp [Part.Untouched]

@[simp] theorem Part.closeOpenOf_untouched (p : Part) (h x : Nat) : p.Untouched (Part.closeOpenOf p h x) := by
  unfold Part.closeOpenOf; split <;> simp [Part.Untouched]

@[simp] theorem Part.closeAllOpen_untouched (p : Part) (x : Nat) : p.Untouched (Part.closeAllOpen p x) := by
  unfold Part.closeAllOpen
  exact Part.forHeads_untouched (fun p h => Part.closeOpenOf_untouched p h x) _ p

@[simp] theorem Part.parkTold_untouched (p : Part) (h : Nat) (breakOrdinal : Option Nat) :
    p.Untouched (Part.parkTold p h breakOrdinal) := by
  unfold Part.parkTold; dsimp only; (repeat' split) <;> simp [Part.Untouched]

@[simp] theorem Part.openForParked_untouched (p : Part) : p.Untouched (Part.openForParked p) := by
  unfold Part.openForParked
  exact Part.forHeads_untouched (fun p h => by split <;> simp [Part.Untouched]) _ p

@[simp] theorem Part.commitOpen_untouched (o : Nat) (p : Part) (h : Nat) : p.Untouched (Part.commitOpen o p h) := by
  unfold Part.commitOpen; (repeat' split) <;> simp [Part.Untouched]

@[simp] theorem Part.trimFront_untouched (o : Nat) (p : Part) (k : Nat) : p.Untouched (Part.trimFront o p k) := by
  unfold Part.trimFront; (repeat' split) <;> simp [Part.Untouched]

@[simp] theorem Part.recordMissed_untouched (p : Part) (h o : Nat) : p.Untouched (Part.recordMissed p h o) := by
  unfold Part.recordMissed; dsimp only; (repeat' split) <;> simp [Part.Untouched]

@[simp] theorem Part.commitMark_untouched (o : Nat) (sewn : Bool) (p : Part) (h : Nat) :
    p.Untouched (Part.commitMark o sewn p h) := by
  unfold Part.commitMark; split <;> simp [Part.Untouched]

@[simp] theorem Part.dropMarks_untouched (p : Part) : p.Untouched (Part.dropMarks p) := ⟨rfl, rfl, rfl, rfl, rfl⟩

@[simp] theorem Part.commitCases_untouched (p : Part) (o : Nat) (sewn : Bool) :
    p.Untouched (Part.commitCases p o sewn) := by
  unfold Part.commitCases
  exact Part.untouched_trans
    (Part.untouched_trans (Part.forHeads_untouched (Part.commitOpen_untouched o) _ p)
      (foldl_untouched (Part.trimFront_untouched o) _ _))
    (Part.untouched_trans (Part.forHeads_untouched (Part.commitMark_untouched o sewn) _ _)
      (Part.dropMarks_untouched _))

@[simp] theorem Part.markRestore_untouched (p : Part) (h : Nat) : p.Untouched (Part.markRestore p h) := by
  unfold Part.markRestore; split <;> simp [Part.Untouched]

@[simp] theorem Part.discardCases_untouched (p : Part) (d : Nat) (takes : CaseState → Bool) :
    p.Untouched (Part.discardCases p d takes) := ⟨rfl, rfl, rfl, rfl, rfl⟩

@[simp] theorem Part.releaseCase_untouched (p : Part) (k : Nat) : p.Untouched (Part.releaseCase p k) := by
  unfold Part.releaseCase; split <;> simp [Part.Untouched]

@[simp] theorem Part.settleCase_untouched (p : Part) (k : Nat) (breakOrdinal : Option Nat) :
    p.Untouched (Part.settleCase p k breakOrdinal) := by
  unfold Part.settleCase; split <;> simp [Part.Untouched]

@[simp] theorem Part.repairProgress_untouched (p : Part) (k h o : Nat) (sewn : Bool) :
    p.Untouched (Part.repairProgress p k h o sewn) := by
  unfold Part.repairProgress; (repeat' split) <;> simp [Part.Untouched]

@[simp] theorem Part.recordStrobe_untouched (p : Part) (src : StrobeSource) (x : Staged) (o : StrobeOutcome) :
    p.Untouched (Part.recordStrobe p src x o) := ⟨rfl, rfl, rfl, rfl, rfl⟩

@[simp] theorem Part.applyStrobe_untouched (p : Part) (src : StrobeSource) (x : Staged) :
    p.Untouched (Part.applyStrobe p src x) := by
  unfold Part.applyStrobe; split <;> simp [Part.Untouched]

@[simp] theorem Part.discardHeld_untouched (p : Part) : p.Untouched (Part.discardHeld p) := by
  unfold Part.discardHeld; split <;> simp [Part.Untouched]

@[simp] theorem Part.takeStrobe_untouched (p : Part) (src : StrobeSource) (x : Staged) :
    p.Untouched (Part.takeStrobe p src x) := by
  unfold Part.takeStrobe; (repeat' split) <;> simp [Part.Untouched]

@[simp] theorem Part.applyHeld_untouched (p : Part) : p.Untouched (Part.applyHeld p) := by
  unfold Part.applyHeld; split <;> simp [Part.Untouched]

@[simp] theorem Part.strobeStep_untouched (p : Part) : p.Untouched (Part.strobeStep p) := by
  unfold Part.strobeStep; (repeat' split) <;> simp [Part.Untouched]

@[simp] theorem Part.resetCounts_untouched (p : Part) (h : Nat) : p.Untouched (Part.resetCounts p h) :=
  ⟨rfl, rfl, rfl, rfl, rfl⟩

@[simp] theorem Part.latchNeedle_untouched (p : Part) (h : Nat) (v : Option Nat) :
    p.Untouched (Part.latchNeedle p h v) := by
  unfold Part.latchNeedle; (repeat' split) <;> simp [Part.Untouched]

@[simp] theorem Part.restSelector_untouched (p : Part) (h n : Nat) : p.Untouched (Part.restSelector p h n) :=
  ⟨rfl, rfl, rfl, rfl, rfl⟩

@[simp] theorem Part.unrest_untouched (p : Part) (h : Nat) (st : SelectorState) :
    p.Untouched (Part.unrest p h st) := by
  simp [Part.Untouched, Part.unrest]

@[simp] theorem Part.putThread_untouched (p : Part) (h n : Nat) (t : Thread) :
    p.Untouched (Part.putThread p h n t) := by
  unfold Part.putThread; split <;> simp [Part.Untouched]

@[simp] theorem Part.parkHead_untouched (p : Part) (h : Nat) (cause : ParkCause) (breakOrdinal : Option Nat) :
    p.Untouched (Part.parkHead p h cause breakOrdinal) := by
  unfold Part.parkHead; split <;> simp [Part.Untouched]

@[simp] theorem Part.restore_untouched (p : Part) (h : Nat) : p.Untouched (Part.restore p h) := by
  simp [Part.Untouched, Part.restore]

@[simp] theorem Part.latchFault_untouched (p : Part) (h : Nat) (k : FaultKind) :
    p.Untouched (Part.latchFault p h k) := by
  unfold Part.latchFault; split <;> simp [Part.Untouched]

@[simp] theorem Part.repairFault_untouched (p : Part) (r : Repair) (k : FaultKind) (o : Option Nat) :
    p.Untouched (Part.repairFault p r k o) := by
  unfold Part.repairFault; split <;> simp [Part.Untouched]

@[simp] theorem Part.actOn_untouched (p : Part) (h : Nat) (k : FaultKind) (o : Option Nat) (silent : Bool) :
    p.Untouched (Part.actOn p h k o silent) := by
  unfold Part.actOn; (repeat' split) <;> simp [Part.Untouched]

@[simp] theorem Part.takeAction_untouched (p : Part) (h : Nat) (k : FaultKind) (o : Option Nat) (silent : Bool) :
    p.Untouched (Part.takeAction p h k o silent) := by
  unfold Part.takeAction; (repeat' split) <;> simp [Part.Untouched]

@[simp] theorem Part.declare_untouched (p : Part) (h : Nat) (k : FaultKind) (o : Option Nat) (silent : Bool) :
    p.Untouched (Part.declare p h k o silent) := by
  unfold Part.declare; split <;> simp [Part.Untouched]

@[simp] theorem Part.addRequest_untouched (p : Part) (h target : Nat) (origin : RequestOrigin) (changeNo : Option Nat) :
    p.Untouched (Part.addRequest p h target origin changeNo) := by
  unfold Part.addRequest; split <;> simp [Part.Untouched]

@[simp] theorem Part.grantTo_untouched (p : Part) (i h : Nat) : p.Untouched (Part.grantTo p i h) := by
  simp [Part.Untouched, Part.grantTo]

@[simp] theorem Part.grantOne_untouched (p : Part) : p.Untouched (Part.grantOne p) := by
  unfold Part.grantOne; (repeat' split) <;> simp [Part.Untouched]

@[simp] theorem Part.grants_untouched (p : Part) : p.Untouched (Part.grants p) := by
  unfold Part.grants
  exact iterate_untouched Part.grantOne_untouched _ p

@[simp] theorem Part.releaseSlot_untouched (p : Part) (h : Nat) : p.Untouched (Part.releaseSlot p h) :=
  ⟨rfl, rfl, rfl, rfl, rfl⟩

@[simp] theorem Part.fitParked_untouched (p : Part) (slot h : Nat) : p.Untouched (Part.fitParked p slot h) := by
  unfold Part.fitParked; split <;> simp [Part.Untouched]

@[simp] theorem Part.countOutcome_untouched (p : Part) (h : Nat) (o : CheckOutcome) :
    p.Untouched (Part.countOutcome p h o) := by
  unfold Part.countOutcome; split <;> simp [Part.Untouched]

@[simp] theorem Part.applyOutcome_untouched (p : Part) (h : Nat) (o : CheckOutcome) :
    p.Untouched (Part.applyOutcome p h o) := by
  unfold Part.applyOutcome; split <;> simp [Part.Untouched]

@[simp] theorem Part.checkHead_untouched (block slot : Nat) (p : Part) (h : Nat) :
    p.Untouched (Part.checkHead block slot p h) := by
  unfold Part.checkHead; split <;> simp [Part.Untouched]

@[simp] theorem Part.checkOpening_untouched (p : Part) (block : Nat) : p.Untouched (Part.checkOpening p block) := by
  simp [Part.Untouched, Part.checkOpening]

@[simp] theorem Part.clearSkips_untouched (p : Part) : p.Untouched (Part.clearSkips p) := ⟨rfl, rfl, rfl, rfl, rfl⟩

@[simp] theorem Part.checkHeads_untouched (block slot : Nat) (hs : List Nat) (p : Part) :
    p.Untouched (p.forHeads hs (Part.checkHead block slot)) := by
  exact Part.forHeads_untouched (Part.checkHead_untouched block slot) hs p

@[simp] theorem Part.trialCheck_untouched (p : Part) (block slot : Nat) :
    p.Untouched (Part.trialCheck p block slot).1 := by
  unfold Part.trialCheck; dsimp only; split
  · simp [Part.Untouched]
  · exact Part.untouched_trans (Part.checkOpening_untouched p block)
      (Part.forHeads_untouched (Part.checkHead_untouched block slot) _ _)

@[simp] theorem Part.newChange_untouched (p : Part) (kind : ChangeKind) (block slot : Nat) :
    p.Untouched (Part.newChange p kind block slot) := ⟨rfl, rfl, rfl, rfl, rfl⟩

@[simp] theorem Part.fullCheck_untouched (p : Part) (block slot : Nat) :
    p.Untouched (Part.fullCheck p block slot) := by
  simp [Part.Untouched, Part.fullCheck]

@[simp] theorem Part.endRequest_untouched (p : Part) (h : Nat) (st : RequestState) (occurred : Bool) :
    p.Untouched (Part.endRequest p h st occurred) := ⟨rfl, rfl, rfl, rfl, rfl⟩

@[simp] theorem Part.examineWaiting_untouched (p : Part) (h : Nat) : p.Untouched (Part.examineWaiting p h) := by
  unfold Part.examineWaiting; (repeat' split) <;> simp [Part.Untouched]

@[simp] theorem Part.noticeManual_untouched (p : Part) (h : Nat) : p.Untouched (Part.noticeManual p h) := by
  unfold Part.noticeManual; split <;> simp [Part.Untouched]

@[simp] theorem Part.setJamStop_untouched (p : Part) : p.Untouched (Part.setJamStop p) := by
  unfold Part.setJamStop; split <;> simp [Part.Untouched]

@[simp] theorem Part.cutSelector_untouched (p : Part) (h : Nat) : p.Untouched (Part.cutSelector p h) := by
  unfold Part.cutSelector; split <;> simp [Part.Untouched]

@[simp] theorem Part.abortRequest_untouched (p : Part) (h : Nat) : p.Untouched (Part.abortRequest p h) := by
  unfold Part.abortRequest; split <;> simp [Part.Untouched]

@[simp] theorem Part.cutSelectors_untouched (hs : List Nat) (p : Part) :
    p.Untouched (p.forHeads hs (Part.cutSelector)) := by
  exact Part.forHeads_untouched (Part.cutSelector_untouched) hs p

@[simp] theorem Part.cutAborts_untouched (hs : List Nat) (p : Part) :
    p.Untouched (p.forHeads hs fun q h => (q.cutSelector h).abortRequest h) := by
  exact Part.forHeads_untouched (fun q h => by simp [Part.Untouched]) hs p

@[simp] theorem Part.lockArbiter_untouched (p : Part) : p.Untouched (Part.lockArbiter p) := by
  simp [Part.Untouched, Part.lockArbiter]

@[simp] theorem Part.restartArbiter_untouched (p : Part) : p.Untouched (Part.restartArbiter p) := by
  simp [Part.Untouched, Part.restartArbiter]

@[simp] theorem Part.enterReady_untouched (p : Part) (cause : Cause) : p.Untouched (Part.enterReady p cause) :=
  ⟨rfl, rfl, rfl, rfl, rfl⟩

@[simp] theorem Part.stopIn_untouched (p : Part) (cause : Cause) : p.Untouched (Part.stopIn p cause) :=
  ⟨rfl, rfl, rfl, rfl, rfl⟩

@[simp] theorem Part.enterUnready_untouched (p : Part) : p.Untouched (Part.enterUnready p) :=
  ⟨rfl, rfl, rfl, rfl, rfl⟩

@[simp] theorem Part.enterTraversing_untouched (p : Part) (t : Travel) : p.Untouched (Part.enterTraversing p t) :=
  ⟨rfl, rfl, rfl, rfl, rfl⟩

@[simp] theorem Part.setCur_untouched (p : Part) (c : Nat) : p.Untouched (Part.setCur p c) :=
  ⟨rfl, rfl, rfl, rfl, rfl⟩

@[simp] theorem Part.voidOpen_untouched (p : Part) : p.Untouched (Part.voidOpen p) := ⟨rfl, rfl, rfl, rfl, rfl⟩

@[simp] theorem Part.lock_untouched (p : Part) (cause : LockCause) : p.Untouched (Part.lock p cause) := by
  unfold Part.lock; split <;> simp [Part.Untouched]

@[simp] theorem Part.orderRun_untouched (p : Part) : p.Untouched (Part.orderRun p) := by
  unfold Part.orderRun; split <;> simp [Part.Untouched]

@[simp] theorem Part.startSewing_untouched (p : Part) : p.Untouched (Part.startSewing p) := by
  simp [Part.Untouched, Part.startSewing]

@[simp] theorem Part.finishChange_untouched (p : Part) (c : ChangeRecord) : p.Untouched (Part.finishChange p c) := by
  unfold Part.finishChange; dsimp only; (repeat' split) <;> simp [Part.Untouched]

@[simp] theorem Part.checkChange_untouched (p : Part) : p.Untouched (Part.checkChange p) := by
  unfold Part.checkChange; (repeat' split) <;> simp [Part.Untouched]

@[simp] theorem Part.enterChanging_untouched (p : Part) (kind : ChangeKind) (slot : Nat) :
    p.Untouched (Part.enterChanging p kind slot) := by
  simp [Part.Untouched, Part.enterChanging]

@[simp] theorem Part.takeStart_untouched (p : Part) : p.Untouched (Part.takeStart p) := by
  unfold Part.takeStart; dsimp only; (repeat' split) <;> simp [Part.Untouched]

@[simp] theorem Part.disarm_untouched (p : Part) : p.Untouched (Part.disarm p) := ⟨rfl, rfl, rfl, rfl, rfl⟩

@[simp] theorem Part.endStop_untouched (p0 : Part) : p0.Untouched (Part.endStop p0) := by
  unfold Part.endStop; dsimp only; (repeat' split) <;> simp [Part.Untouched]

@[simp] theorem Part.startStep_untouched (p : Part) (forward : Bool) : p.Untouched (Part.startStep p forward) :=
  ⟨rfl, rfl, rfl, rfl, rfl⟩

@[simp] theorem Part.stepDone_untouched (p : Part) (t : Travel) (target : Nat) (forward : Bool) :
    p.Untouched (Part.stepDone p t target forward) := by
  unfold Part.stepDone; dsimp only; (repeat' split) <;> simp [Part.Untouched]

@[simp] theorem Part.setRepair_untouched (p : Part) (r : Repair) : p.Untouched (Part.setRepair p r) :=
  ⟨rfl, rfl, rfl, rfl, rfl⟩

@[simp] theorem Part.goHome_untouched (p : Part) (r : Repair) (cause : Cause) :
    p.Untouched (Part.goHome p r cause) := ⟨rfl, rfl, rfl, rfl, rfl⟩

@[simp] theorem Part.endUnsewn_untouched (p : Part) (r : Repair) (cause : Cause) :
    p.Untouched (Part.endUnsewn p r cause) := by
  simp [Part.Untouched, Part.endUnsewn]

@[simp] theorem Part.repairSew_untouched (p : Part) (r : Repair) (n : Nat) : p.Untouched (Part.repairSew p r n) := by
  unfold Part.repairSew; split <;> simp [Part.Untouched]

@[simp] theorem Part.prepared_untouched (p : Part) (r : Repair) (n : Except Cause Nat) :
    p.Untouched (Part.prepared p r n) := by
  unfold Part.prepared; (repeat' split) <;> simp [Part.Untouched]

@[simp] theorem Part.prepare_untouched (p0 : Part) (r0 : Repair) : p0.Untouched (Part.prepare p0 r0) := by
  unfold Part.prepare; dsimp only; (repeat' split) <;> simp [Part.Untouched]

@[simp] theorem Part.outboundDone_untouched (p : Part) (r : Repair) : p.Untouched (Part.outboundDone p r) := by
  unfold Part.outboundDone; split <;> simp [Part.Untouched]

@[simp] theorem Part.homeboundDone_untouched (p : Part) (r : Repair) : p.Untouched (Part.homeboundDone p r) :=
  ⟨rfl, rfl, rfl, rfl, rfl⟩

@[simp] theorem Part.repairStopped_untouched (p : Part) (r : Repair) : p.Untouched (Part.repairStopped p r) := by
  simp [Part.Untouched, Part.repairStopped]

@[simp] theorem Part.revises_untouched (hs : List Nat) (p : Part) :
    p.Untouched (p.forHeads hs (Part.revise)) := by
  exact Part.forHeads_untouched (Part.revise_untouched) hs p

@[simp] theorem Part.takeRepair_untouched (p : Part) (k : Nat) (q : Case) : p.Untouched (Part.takeRepair p k q) := by
  unfold Part.takeRepair; dsimp only; split
  · split <;> simp [Part.Untouched]
  · simp [Part.Untouched]

@[simp] theorem Part.examineEnd_untouched (p0 : Part) (h : Nat) : p0.Untouched (Part.examineEnd p0 h) := by
  unfold Part.examineEnd; dsimp only; (repeat' split) <;> simp [Part.Untouched]

@[simp] theorem Part.finishRequest_untouched (p : Part) (h : Nat) (st : RequestState) (occurred : Bool) :
    p.Untouched (Part.finishRequest p h st occurred) := by
  simp [Part.Untouched, Part.finishRequest]

@[simp] theorem Part.arrival_untouched (p : Part) (h : Nat) : p.Untouched (Part.arrival p h) := by
  simp [Part.Untouched, Part.arrival]

@[simp] theorem Part.setHalt_untouched (p : Part) (h : Nat) (b : Bool) : p.Untouched (Part.setHalt p h b) :=
  ⟨rfl, rfl, rfl, rfl, rfl⟩

@[simp] theorem Part.deadline_untouched (p : Part) (h : Nat) : p.Untouched (Part.deadline p h) := by
  unfold Part.deadline; dsimp only; (repeat' split) <;> simp [Part.Untouched]

@[simp] theorem Part.raiseLost_untouched (p : Part) (h : Nat) : p.Untouched (Part.raiseLost p h) := by
  unfold Part.raiseLost; split <;> simp [Part.Untouched]

@[simp] theorem Part.disturb_untouched (p : Part) (h : Nat) : p.Untouched (Part.disturb p h) := by
  unfold Part.disturb; split <;> simp [Part.Untouched]

@[simp] theorem Part.reportPosition_untouched (p0 : Part) (h : Nat) (detent : Option Nat) (moving : Bool) :
    p0.Untouched (Part.reportPosition p0 h detent moving) := by
  unfold Part.reportPosition; dsimp only; (repeat' split) <;> simp [Part.Untouched]

@[simp] theorem Part.cancelRequest_untouched (p : Part) (h : Nat) : p.Untouched (Part.cancelRequest p h).1 := by
  unfold Part.cancelRequest; dsimp only; (repeat' split) <;> simp [Part.Untouched]

@[simp] theorem Part.finishClear_untouched (p : Part) : p.Untouched (Part.finishClear p) := by
  unfold Part.finishClear; split <;> simp [Part.Untouched]

@[simp] theorem Part.countLeg_untouched (p : Part) : p.Untouched (Part.countLeg p) := by
  unfold Part.countLeg; split <;> simp [Part.Untouched]

@[simp] theorem Part.settleRepair_untouched (p : Part) : p.Untouched (Part.settleRepair p) := by
  unfold Part.settleRepair; (repeat' split) <;> simp [Part.Untouched]

@[simp] theorem Part.clearLegDone_untouched (p : Part) : p.Untouched (Part.clearLegDone p) := by
  unfold Part.clearLegDone; (repeat' split) <;> simp [Part.Untouched]

@[simp] theorem Part.clearLeg_untouched (p : Part) : p.Untouched (Part.clearLeg p) := by
  unfold Part.clearLeg; (repeat' split) <;> simp [Part.Untouched]

@[simp] theorem Part.takeClear_untouched (p0 : Part) : p0.Untouched (Part.takeClear p0).1 := by
  unfold Part.takeClear; dsimp only; (repeat' split) <;> simp [Part.Untouched]

@[simp] theorem Part.legDone_untouched (p : Part) : p.Untouched (Part.legDone p) := by
  unfold Part.legDone; (repeat' split) <;> simp [Part.Untouched]

@[simp] theorem Part.searchDone_untouched (p : Part) : p.Untouched (Part.searchDone p) := by
  unfold Part.searchDone; split <;> simp [Part.Untouched]

@[simp] theorem Part.lockIfEstop_untouched (p : Part) : p.Untouched (Part.lockIfEstop p) := by
  unfold Part.lockIfEstop; split <;> simp [Part.Untouched]

@[simp] theorem Part.abortPending_untouched (p : Part) (h : Nat) : p.Untouched (Part.abortPending p h) := by
  unfold Part.abortPending; split <;> simp [Part.Untouched]

@[simp] theorem Part.disableHead_untouched (p : Part) (h : Nat) : p.Untouched (Part.disableHead p h) := by
  unfold Part.disableHead; dsimp only; (repeat' split) <;> simp [Part.Untouched]

@[simp] theorem Part.enableHead_untouched (p : Part) (h : Nat) : p.Untouched (Part.enableHead p h) := by
  unfold Part.enableHead; dsimp only; (repeat' split) <;> simp [Part.Untouched]

@[simp] theorem Part.keepLength_untouched (p : Part) (o l : Nat) : p.Untouched (Part.keepLength p o l) :=
  ⟨rfl, rfl, rfl, rfl, rfl⟩

@[simp] theorem Part.tensionSample_untouched (h o : Nat) (t : Thread) (p : Part) (s : SampleUse × Option Nat) :
    p.Untouched (Part.tensionSample h o t p s) := by
  unfold Part.tensionSample; dsimp only; (repeat' split) <;> simp [Part.Untouched]

@[simp] theorem Part.declareBreak_untouched (p : Part) (h n o : Nat) : p.Untouched (Part.declareBreak p h n o) := by
  simp [Part.Untouched, Part.declareBreak]

@[simp] theorem Part.motionTest_untouched (p : Part) (h n o : Nat) (low : Bool) :
    p.Untouched (Part.motionTest p h n o low) := by
  unfold Part.motionTest; dsimp only; (repeat' split) <;> simp [Part.Untouched]

@[simp] theorem Part.unnote_untouched (p : Part) (h : Nat) (l : Latch) : p.Untouched (Part.unnote p h l) := by
  unfold Part.unnote; split <;> exact ⟨rfl, rfl, rfl, rfl, rfl⟩

@[simp] theorem Part.setLastSpan_untouched (p : Part) (h : Nat) (s : LastSpan) :
    p.Untouched (Part.setLastSpan p h s) := ⟨rfl, rfl, rfl, rfl, rfl⟩

@[simp] theorem Part.tensionSamples_untouched (h o : Nat) (t : Thread) (l : List (SampleUse × Option Nat)) (p : Part) :
    p.Untouched (l.foldl (Part.tensionSample h o t) p) := by
  exact foldl_untouched (Part.tensionSample_untouched h o t) l p

@[simp] theorem Part.evaluateSpan_untouched (p : Part) (h o n : Nat) (l : Latch) (r : Report) :
    p.Untouched (Part.evaluateSpan p h o n l r) := by
  simp [Part.Untouched, Part.evaluateSpan]

@[simp] theorem Part.deliverSpan_untouched (p0 : Part) (h : Nat) (report : Option Report) :
    p0.Untouched (Part.deliverSpan p0 h report) := by
  unfold Part.deliverSpan; dsimp only; (repeat' split) <;> simp [Part.Untouched]

@[simp] theorem Part.drawBobbin_untouched (o len : Nat) (p : Part) (h : Nat) :
    p.Untouched (Part.drawBobbin o len p h) := by
  unfold Part.drawBobbin; (repeat' split) <;> simp [Part.Untouched]

@[simp] theorem Part.drawBobbins_untouched (p : Part) (o len : Nat) : p.Untouched (Part.drawBobbins p o len) := by
  unfold Part.drawBobbins
  exact Part.forHeads_untouched (Part.drawBobbin_untouched o len) _ p

@[simp] theorem Part.pressButton_untouched (p : Part) (h : Nat) : p.Untouched (Part.pressButton p h).1 := by
  unfold Part.pressButton; (repeat' split) <;> simp [Part.Untouched]

@[simp] theorem Part.buttonFlag_untouched (p : Part) (h : Nat) (flag : Bool) :
    p.Untouched (Part.buttonFlag p h flag) := by
  unfold Part.buttonFlag; dsimp only; (repeat' split) <;> simp [Part.Untouched]

@[simp] theorem Part.countReport_untouched (p : Part) (h : Nat) (valid : Bool) :
    p.Untouched (Part.countReport p h valid) := by
  unfold Part.countReport; dsimp only; (repeat' split) <;> simp [Part.Untouched]

@[simp] theorem Part.takeReport_untouched (p : Part) (k : ExchangeKind) (h : Nat) (o : ReportOutcome) (report : Option Report) :
    p.Untouched (Part.takeReport p k h o report) := by
  unfold Part.takeReport; (repeat' split) <;> simp [Part.Untouched]

@[simp] theorem Part.nextSlot_untouched (p : Part) : p.Untouched (Part.nextSlot p) := by
  unfold Part.nextSlot; (repeat' split) <;> simp [Part.Untouched]

@[simp] theorem Part.receive_untouched (p : Part) (frame : List Byte) : p.Untouched (Part.receive p frame) := by
  unfold Part.receive; (repeat' split) <;> simp [Part.Untouched]

@[simp] theorem Part.slotEnd_untouched (p : Part) (anyByte : Bool) : p.Untouched (Part.slotEnd p anyByte) := by
  unfold Part.slotEnd; split <;> simp [Part.Untouched]

@[simp] theorem Part.idleExchange_untouched (p : Part) : p.Untouched (Part.idleExchange p) := by
  unfold Part.idleExchange; split <;> simp [Part.Untouched]

@[simp] theorem Part.setHeadEntry_untouched (p : Part) (e : Entry) : p.Untouched (Part.setHeadEntry p e) :=
  ⟨rfl, rfl, rfl, rfl, rfl⟩

@[simp] theorem Part.windowStart_untouched (p : Part) : p.Untouched (Part.windowStart p) := by
  unfold Part.windowStart; (repeat' split) <;> simp [Part.Untouched]

@[simp] theorem Part.subMoveComplete_untouched (p : Part) : p.Untouched (Part.subMoveComplete p) := by
  unfold Part.subMoveComplete; dsimp only; (repeat' split) <;> simp [Part.Untouched]

@[simp] theorem Part.ordinalCommit_untouched (p : Part) (sv : Served) : p.Untouched (Part.ordinalCommit p sv) := by
  unfold Part.ordinalCommit; dsimp only; (repeat' split) <;> simp [Part.Untouched]

@[simp] theorem Part.commitOrdinal_untouched (p : Part) (sv : Served) : p.Untouched (Part.commitOrdinal p sv) := by
  unfold Part.commitOrdinal; split <;> simp [Part.Untouched]

@[simp] theorem Part.stopReached_untouched (p : Part) : p.Untouched (Part.stopReached p) := by
  unfold Part.stopReached; (repeat' split) <;> simp [Part.Untouched]

@[simp] theorem Part.commitEntry_untouched (p : Part) (e : Entry) : p.Untouched (Part.commitEntry p e) := by
  unfold Part.commitEntry; dsimp only; (repeat' split) <;> simp [Part.Untouched]

@[simp] theorem Part.commitAngle_untouched (p : Part) : p.Untouched (Part.commitAngle p) := by
  unfold Part.commitAngle; (repeat' split) <;> simp [Part.Untouched]

@[simp] theorem Part.actOnLandmark_untouched (p : Part) (l : Landmark) : p.Untouched (Part.actOnLandmark p l) := by
  unfold Part.actOnLandmark; split <;> simp [Part.Untouched]

@[simp] theorem Part.deliverLandmark_untouched (p : Part) (l : Landmark) :
    p.Untouched (Part.deliverLandmark p l) := by
  simp [Part.Untouched, Part.deliverLandmark]

@[simp] theorem Part.indexTrip_untouched (p : Part) : p.Untouched (Part.indexTrip p) := by
  simp [Part.Untouched, Part.indexTrip]

@[simp] theorem Part.reverseTrip_untouched (p : Part) : p.Untouched (Part.reverseTrip p) := by
  simp [Part.Untouched, Part.reverseTrip]

@[simp] theorem Part.deliverLandmarks_untouched (l : List Landmark) (p : Part) :
    p.Untouched (l.foldl Part.deliverLandmark p) := by
  exact foldl_untouched Part.deliverLandmark_untouched l p

@[simp] theorem Part.countForward_untouched (p : Part) (index : Bool) : p.Untouched (Part.countForward p index) := by
  unfold Part.countForward; dsimp only; split <;> simp [Part.Untouched]

@[simp] theorem Part.countReverse_untouched (p : Part) (index : Bool) : p.Untouched (Part.countReverse p index) := by
  unfold Part.countReverse; dsimp only; (repeat' split) <;> simp [Part.Untouched]

@[simp] theorem Part.encoderChange_untouched (p : Part) (c : PairChange) (index : Bool) :
    p.Untouched (Part.encoderChange p c index) := by
  unfold Part.encoderChange; split <;> simp [Part.Untouched]

@[simp] theorem Part.amendHoop_untouched (p0 : Part) (b : Box) : p0.Untouched (Part.amendHoop p0 b).1 := by
  unfold Part.amendHoop; dsimp only; (repeat' split) <;> simp [Part.Untouched]

@[simp] theorem Part.takeHome_untouched (p : Part) : p.Untouched (Part.takeHome p).1 := by
  unfold Part.takeHome; split <;> simp [Part.Untouched]

@[simp] theorem Part.takeJog_untouched (p : Part) (mode : Nat) (v : Vec) : p.Untouched (Part.takeJog p mode v).1 := by
  unfold Part.takeJog; dsimp only; (repeat' split) <;> simp [Part.Untouched]

@[simp] theorem Part.sensorEdge_untouched (p : Part) (axis : Axis) (active : Bool) :
    p.Untouched (Part.sensorEdge p axis active) := by
  unfold Part.sensorEdge; dsimp only; (repeat' split) <;> simp [Part.Untouched]

@[simp] theorem Part.amendMachine_untouched (p0 : Part) (speed : Given Nat) :
    p0.Untouched (Part.amendMachine p0 speed).1 := by
  unfold Part.amendMachine; split <;> simp [Part.Untouched]

@[simp] theorem Part.discardActive_untouched (p : Part) (drop : Bool) : p.Untouched (Part.discardActive p drop) := by
  unfold Part.discardActive; (repeat' split) <;> simp [Part.Untouched]

@[simp] theorem Part.startRequest_untouched (p : Part) : p.Untouched (Part.startRequest p).1 := by
  unfold Part.startRequest; (repeat' split) <;> simp [Part.Untouched]

@[simp] theorem Part.setArmed_untouched (p : Part) (b : Bool) : p.Untouched (Part.setArmed p b) :=
  ⟨rfl, rfl, rfl, rfl, rfl⟩

@[simp] theorem Part.arm_untouched (p : Part) (on : Nat) : p.Untouched (Part.arm p on).1 := by
  unfold Part.arm; (repeat' split) <;> simp [Part.Untouched]

@[simp] theorem Part.stopRequest_untouched (p : Part) (n : Nat) : p.Untouched (Part.stopRequest p n).1 := by
  unfold Part.stopRequest; dsimp only; split <;> simp [Part.Untouched]

@[simp] theorem Part.travel_untouched (p : Part) (forward : Bool) (n : Nat) :
    p.Untouched (Part.travel p forward n).1 := by
  unfold Part.travel; dsimp only; (repeat' split) <;> simp [Part.Untouched]

@[simp] theorem Part.rewind_untouched (p : Part) (discard : Nat) : p.Untouched (Part.rewind p discard).1 := by
  unfold Part.rewind; (repeat' split) <;> simp [Part.Untouched]

@[simp] theorem Part.clearRequest_untouched (p : Part) : p.Untouched (Part.clearRequest p).1 := by
  unfold Part.clearRequest; (repeat' split) <;> simp [Part.Untouched]

@[simp] theorem Part.repairRequest_untouched (p : Part) (k : Nat) : p.Untouched (Part.repairRequest p k).1 := by
  unfold Part.repairRequest; (repeat' split) <;> simp [Part.Untouched]

@[simp] theorem Part.startLine_untouched (p : Part) : p.Untouched (Part.startLine p) := by
  unfold Part.startLine; split <;> simp [Part.Untouched]

@[simp] theorem Part.writeMap_untouched (p0 : Part) (map : Option Staged) (unit : Nat) (pairs : List (Nat × Option Nat)) :
    p0.Untouched (Part.writeMap p0 map unit pairs) := by
  unfold Part.writeMap; split <;> simp [Part.Untouched]

@[simp] theorem Part.amendMap_untouched (p : Part) (map unit : Nat) (pairs : List MapPair) :
    p.Untouched (Part.amendMap p map unit pairs).1 := by
  unfold Part.amendMap; (repeat' split) <;> simp [Part.Untouched]

@[simp] theorem Part.amendMapMode_untouched (p : Part) (mode : Nat) : p.Untouched (Part.amendMapMode p mode).1 := by
  unfold Part.amendMapMode; (repeat' split) <;> simp [Part.Untouched]

@[simp] theorem Part.strobeRequest_untouched (p : Part) (map : Nat) : p.Untouched (Part.strobeRequest p map).1 := by
  unfold Part.strobeRequest; (repeat' split) <;> simp [Part.Untouched]

@[simp] theorem Part.automap_untouched (p : Part) (d map : Nat) : p.Untouched (Part.automap p d map).1 := by
  unfold Part.automap; dsimp only; (repeat' split) <;> simp [Part.Untouched]

@[simp] theorem Part.lookupMap_untouched (p : Part) (map unit : Nat) : p.Untouched (Part.lookupMap p map unit).1 := by
  unfold Part.lookupMap; (repeat' split) <;> simp [Part.Untouched]

@[simp] theorem Part.takeSelect_untouched (p : Part) (h n : Nat) : p.Untouched (Part.takeSelect p h n).1 := by
  unfold Part.takeSelect; split <;> simp [Part.Untouched]

@[simp] theorem Part.selectRequest_untouched (p : Part) (h n : Nat) : p.Untouched (Part.selectRequest p h n).1 := by
  unfold Part.selectRequest; (repeat' split) <;> simp [Part.Untouched]

@[simp] theorem Part.cancelChange_untouched (p : Part) (h : Nat) : p.Untouched (Part.cancelChange p h).1 := by
  unfold Part.cancelChange; (repeat' split) <;> simp [Part.Untouched]

@[simp] theorem Part.deadlinePassed_untouched (p : Part) (h : Nat) : p.Untouched (Part.deadlinePassed p h) := by
  unfold Part.deadlinePassed; split <;> simp [Part.Untouched]

@[simp] theorem Part.amendThread_untouched (p : Part) (h n : Nat) (colour : Given Nat) (band : Given (Nat × Nat)) (state : Given Nat) :
    p.Untouched (Part.amendThread p h n colour band state).1 := by
  unfold Part.amendThread; (repeat' split) <;> simp [Part.Untouched]

@[simp] theorem Part.retireThread_untouched (p : Part) (h n : Nat) : p.Untouched (Part.retireThread p h n).1 := by
  unfold Part.retireThread; (repeat' split) <;> simp [Part.Untouched]

@[simp] theorem Part.setSchedule_untouched (p : Part) (l : List SampleEntry) :
    p.Untouched (Part.setSchedule p l) := ⟨rfl, rfl, rfl, rfl, rfl⟩

@[simp] theorem Part.addSample_untouched (p : Part) (angle heads cadence use : Nat) :
    p.Untouched (Part.addSample p angle heads cadence use).1 := by
  unfold Part.addSample; (repeat' split) <;> simp [Part.Untouched]

@[simp] theorem Part.retireSample_untouched (p : Part) (i : Nat) : p.Untouched (Part.retireSample p i).1 := by
  unfold Part.retireSample; split <;> simp [Part.Untouched]

@[simp] theorem Part.tensionDeclared_untouched (p : Part) (h o : Nat) : p.Untouched (Part.tensionDeclared p h o) := by
  unfold Part.tensionDeclared; split <;> simp [Part.Untouched]

@[simp] theorem Part.breakDeclared_untouched (p : Part) (h o n : Nat) : p.Untouched (Part.breakDeclared p h o n) := by
  unfold Part.breakDeclared; split <;> simp [Part.Untouched]

@[simp] theorem Part.bobbinDeclared_untouched (p : Part) (h o : Nat) : p.Untouched (Part.bobbinDeclared p h o) := by
  unfold Part.bobbinDeclared; split <;> simp [Part.Untouched]

@[simp] theorem Part.amendEnable_untouched (p : Part) (h : Nat) (g : HeadGiven) :
    p.Untouched (Part.amendEnable p h g) := by
  unfold Part.amendEnable; (repeat' split) <;> simp [Part.Untouched]

@[simp] theorem Part.amendHead_untouched (p : Part) (h : Nat) (f : HeadFields) :
    p.Untouched (Part.amendHead p h f).1 := by
  unfold Part.amendHead; (repeat' split) <;> simp [Part.Untouched]

@[simp] theorem Part.clearFaults_untouched (p : Part) (h kinds : Nat) :
    p.Untouched (Part.clearFaults p h kinds).1 := by
  unfold Part.clearFaults; (repeat' split) <;> simp [Part.Untouched]

@[simp] theorem Part.unjam_untouched (p : Part) (h : Nat) : p.Untouched (Part.unjam p h) := by
  unfold Part.unjam; (repeat' split) <;> simp [Part.Untouched]

@[simp] theorem Part.clearJam_untouched (p : Part) (h : Nat) : p.Untouched (Part.clearJam p h).1 := by
  unfold Part.clearJam; split <;> simp [Part.Untouched]

@[simp] theorem Part.parkRequest_untouched (p : Part) (h : Nat) : p.Untouched (Part.parkRequest p h).1 := by
  unfold Part.parkRequest; (repeat' split) <;> simp [Part.Untouched]

@[simp] theorem Part.restoreRequest_untouched (p : Part) (h : Nat) : p.Untouched (Part.restoreRequest p h).1 := by
  unfold Part.restoreRequest; (repeat' split) <;> simp [Part.Untouched]

@[simp] theorem Part.retireCaseRequest_untouched (p : Part) (k : Nat) :
    p.Untouched (Part.retireCaseRequest p k).1 := by
  unfold Part.retireCaseRequest; (repeat' split) <;> simp [Part.Untouched]

@[simp] theorem Part.lookupCase_untouched (p : Part) (k : Nat) : p.Untouched (Part.lookupCase p k).1 := by
  unfold Part.lookupCase; (repeat' split) <;> simp [Part.Untouched]

@[simp] theorem Part.lostEvent_untouched (p : Part) (h : Nat) : p.Untouched (Part.lostEvent p h) := by
  unfold Part.lostEvent; split <;> simp [Part.Untouched]

@[simp] theorem Part.refitHead_untouched (old new : Nat) (p : Part) (h : Nat) :
    p.Untouched (Part.refitHead old new p h) := by
  unfold Part.refitHead; dsimp only; (repeat' split) <;> simp [Part.Untouched]

@[simp] theorem Part.needleUpReport_untouched (p : Part) : p.Untouched (Part.needleUpReport p) := by
  unfold Part.needleUpReport; (repeat' split) <;> simp [Part.Untouched]

end Sys2Proof.Machine
end

