-- ==== Sys2Proof/Laws/Library.lean ====
section
/-! SUPPORT. The laws of sorted tables and of the stitch store (R2, R3): an entry reads as it was written, the others as
before, and every write keeps the canonical form; and the length of the design list under the library's updates. -/

namespace Sys2Proof.Machine

variable {α : Type}

/-! ## Sorted tables -/

/-- Every key of a table is above a bound. -/
def keysAbove (k : Nat) (t : Table α) : Prop := ∀ e ∈ t, k < e.1

theorem sortedTable_cons (j : Nat) (w : α) (t : Table α) :
    sortedTable ((j, w) :: t) = true ↔ keysAbove j t ∧ sortedTable t = true := by
  induction t generalizing j w with
  | nil => simp [sortedTable, keysAbove]
  | cons e t ih =>
    obtain ⟨k, v⟩ := e
    simp only [sortedTable, Bool.and_eq_true, decide_eq_true_eq, keysAbove, List.mem_cons, forall_eq_or_imp]
    constructor
    · rintro ⟨h, hs⟩
      exact ⟨⟨h, fun e he => Nat.lt_trans h ((ih k v).1 hs |>.1 e he)⟩, hs⟩
    · rintro ⟨⟨h, _⟩, hs⟩
      exact ⟨h, hs⟩

theorem keysAbove_insertKey {j k : Nat} {v : α} {t : Table α} (h : keysAbove j t) (hk : j < k) :
    keysAbove j (insertKey k v t) := by
  induction t with
  | nil => simpa [insertKey, keysAbove] using hk
  | cons e t ih =>
    obtain ⟨i, w⟩ := e
    have h1 : j < i := h (i, w) (by simp)
    have h2 : keysAbove j t := fun e he => h e (by simp [he])
    unfold insertKey
    split
    · exact fun e he => by
        rcases List.mem_cons.1 he with rfl | he
        · exact hk
        · exact h e he
    · split
      · exact fun e he => by
          rcases List.mem_cons.1 he with rfl | he
          · exact hk
          · exact h2 e he
      · exact fun e he => by
          rcases List.mem_cons.1 he with rfl | he
          · exact h1
          · exact ih h2 e he

theorem keysAbove_eraseKey {j : Nat} (k : Nat) {t : Table α} (h : keysAbove j t) : keysAbove j (eraseKey k t) := by
  induction t with
  | nil => exact h
  | cons e t ih =>
    obtain ⟨i, w⟩ := e
    have h2 : keysAbove j t := fun e he => h e (by simp [he])
    unfold eraseKey
    split
    · exact ih h2
    · exact fun e he => by
        rcases List.mem_cons.1 he with rfl | he
        · exact h (i, w) (by simp)
        · exact ih h2 e he

/-- Listing a key keeps the keys rising. -/
theorem sortedTable_insertKey (k : Nat) (v : α) (t : Table α) (h : sortedTable t = true) :
    sortedTable (insertKey k v t) = true := by
  induction t with
  | nil => rfl
  | cons e t ih =>
    obtain ⟨j, w⟩ := e
    have hs := (sortedTable_cons j w t).1 h
    unfold insertKey
    split
    · next hkj =>
      refine (sortedTable_cons k v _).2 ⟨fun e he => ?_, h⟩
      rcases List.mem_cons.1 he with rfl | he
      · exact hkj
      · exact Nat.lt_trans hkj (hs.1 e he)
    · split
      · next hkj => subst hkj; exact (sortedTable_cons k v t).2 hs
      · exact (sortedTable_cons j w _).2 ⟨keysAbove_insertKey hs.1 (by omega), ih hs.2⟩

/-- Taking a key off keeps the keys rising. -/
theorem sortedTable_eraseKey (k : Nat) (t : Table α) (h : sortedTable t = true) :
    sortedTable (eraseKey k t) = true := by
  induction t with
  | nil => rfl
  | cons e t ih =>
    obtain ⟨j, w⟩ := e
    have hs := (sortedTable_cons j w t).1 h
    unfold eraseKey
    split
    · exact ih hs.2
    · exact (sortedTable_cons j w _).2 ⟨keysAbove_eraseKey k hs.1, ih hs.2⟩

theorem lookupKey_insertKey (k j : Nat) (v : α) (t : Table α) :
    lookupKey j (insertKey k v t) = if j = k then some v else lookupKey j t := by
  induction t with
  | nil => simp only [insertKey, lookupKey, eq_comm]
  | cons e t ih =>
    obtain ⟨i, w⟩ := e
    unfold insertKey
    split
    · by_cases hj : j = k
      · simp [lookupKey, hj]
      · simp [lookupKey, hj, Ne.symm hj]
    · split
      · next h =>
        subst h
        by_cases hj : j = k
        · simp [lookupKey, hj]
        · simp [lookupKey, hj, Ne.symm hj]
      · by_cases hj : j = k
        · subst hj; simp only [lookupKey, ih]; simp; omega
        · simp only [lookupKey, ih, hj, if_false]

theorem lookupKey_eraseKey (k j : Nat) (t : Table α) :
    lookupKey j (eraseKey k t) = if j = k then none else lookupKey j t := by
  induction t with
  | nil => simp [eraseKey, lookupKey]
  | cons e t ih =>
    obtain ⟨i, w⟩ := e
    unfold eraseKey
    split
    · next h =>
      subst h
      by_cases hj : j = i
      · subst hj; simpa using ih
      · simp [ih, lookupKey, hj, Ne.symm hj]
    · by_cases hj : j = k
      · subst hj; simp [lookupKey, ih]; omega
      · simp [lookupKey, ih, hj]

/-! ## The stitch store -/

/-- A record reads as it was written. -/
theorem readStitch_writeStitch_same (t : Table Stitch) (a : Nat) (v : Stitch) :
    readStitch (writeStitch t a v) a = v := by
  unfold writeStitch readStitch
  split
  · next h => simp [lookupKey_eraseKey, h]
  · simp [lookupKey_insertKey]

/-- Another record reads as before. -/
theorem readStitch_writeStitch_other (t : Table Stitch) (a b : Nat) (v : Stitch) (h : b ≠ a) :
    readStitch (writeStitch t a v) b = readStitch t b := by
  unfold writeStitch readStitch
  split
  · simp [lookupKey_eraseKey, h]
  · simp [lookupKey_insertKey, h]

theorem mem_insertKey {k : Nat} {v : α} {t : Table α} {e : Nat × α} (h : e ∈ insertKey k v t) : e = (k, v) ∨ e ∈ t := by
  induction t with
  | nil => simpa [insertKey] using h
  | cons f t ih =>
    obtain ⟨i, w⟩ := f
    unfold insertKey at h
    split at h
    · simpa using h
    · split at h
      · rcases List.mem_cons.1 h with h | h
        · exact .inl h
        · exact .inr (by simp [h])
      · rcases List.mem_cons.1 h with h | h
        · exact .inr (by simp [h])
        · rcases ih h with h | h
          · exact .inl h
          · exact .inr (by simp [h])

theorem mem_eraseKey {k : Nat} {t : Table α} {e : Nat × α} (h : e ∈ eraseKey k t) : e ∈ t := by
  induction t with
  | nil => exact h
  | cons f t ih =>
    obtain ⟨i, w⟩ := f
    unfold eraseKey at h
    split at h
    · exact List.mem_cons_of_mem _ (ih h)
    · rcases List.mem_cons.1 h with h | h
      · simp [h]
      · exact List.mem_cons_of_mem _ (ih h)

/-- A write keeps the canonical form of the store. -/
theorem stitchesWf_writeStitch (t : Table Stitch) (a : Nat) (v : Stitch) (h : stitchesWf t = true) :
    stitchesWf (writeStitch t a v) = true := by
  simp only [stitchesWf, Bool.and_eq_true, List.all_eq_true] at h ⊢
  unfold writeStitch
  split
  · exact ⟨sortedTable_eraseKey a t h.1, fun e he => h.2 e (mem_eraseKey he)⟩
  · next hv =>
    refine ⟨sortedTable_insertKey a v t h.1, fun e he => ?_⟩
    rcases mem_insertKey he with rfl | he
    · simpa using hv
    · exact h.2 e he

/-- A key at or below the bound of a table is not listed in it. -/
theorem lookupKey_none_of_keysAbove {j : Nat} {t : Table α} (h : keysAbove j t) (k : Nat) (hk : k ≤ j) :
    lookupKey k t = none := by
  induction t with
  | nil => rfl
  | cons e t ih =>
    obtain ⟨i, w⟩ := e
    have h1 : j < i := h (i, w) (by simp)
    have hi : i ≠ k := by omega
    simp [lookupKey, hi, ih fun e he => h e (by simp [he])]

/-- The number of entries after a key is listed. -/
theorem length_insertKey (k : Nat) (v : α) (t : Table α) (h : sortedTable t = true) :
    (insertKey k v t).length = t.length + if (lookupKey k t).isNone then 1 else 0 := by
  induction t with
  | nil => simp [insertKey, lookupKey]
  | cons e t ih =>
    obtain ⟨i, w⟩ := e
    have hs := (sortedTable_cons i w t).1 h
    unfold insertKey
    split
    · next hk =>
      have hi : i ≠ k := by omega
      simp [lookupKey, hi, lookupKey_none_of_keysAbove hs.1 k (by omega)]
    · split
      · next hk => subst hk; simp [lookupKey]
      · next hk =>
        have hi : i ≠ k := fun e => hk e.symm
        simp [lookupKey, hi, ih hs.2]
        omega

/-- The number of entries after a listed key is taken off. -/
theorem length_eraseKey (k : Nat) (t : Table α) (h : sortedTable t = true) :
    (eraseKey k t).length = t.length - if (lookupKey k t).isSome then 1 else 0 := by
  induction t with
  | nil => simp [eraseKey, lookupKey]
  | cons e t ih =>
    obtain ⟨i, w⟩ := e
    have hs := (sortedTable_cons i w t).1 h
    unfold eraseKey
    split
    · next hk =>
      subst hk
      simp [lookupKey, ih hs.2, lookupKey_none_of_keysAbove hs.1 i (by omega)]
    · next hk =>
      simp only [lookupKey, hk, if_false, List.length_cons, ih hs.2]
      cases hl : lookupKey k t with
      | none => simp
      | some v =>
        have : t ≠ [] := by rintro rfl; simp [lookupKey] at hl
        have := List.length_pos_iff.2 this
        simp; omega

/-! ## The designs -/

@[simp] theorem Library.setDesign_length (l : Library) (d : Nat) (x : Design) :
    (l.setDesign d x).designs.length = l.designs.length := by simp [Library.setDesign]

@[simp] theorem Library.setDesign_pools (l : Library) (d : Nat) (x : Design) :
    (l.setDesign d x).freePages = l.freePages ∧ (l.setDesign d x).freeRuns = l.freeRuns ∧
    (l.setDesign d x).stitches = l.stitches ∧ (l.setDesign d x).sealer = l.sealer := by
  repeat' constructor

theorem Library.design_setDesign_same (l : Library) (d : Nat) (x : Design) (h : d < l.designs.length) :
    (l.setDesign d x).design d = x := by simp [Library.setDesign, Library.design, List.getD, h]

@[simp] theorem Library.design_setDesign_other (l : Library) (d e : Nat) (x : Design) (h : e ≠ d) :
    (l.setDesign d x).design e = l.design e := by
  simp [Library.setDesign, Library.design, List.getD, List.getElem?_set_ne (Ne.symm h)]

end Sys2Proof.Machine
end

