-- ==== Sys2Proof/Laws/Operands.lean ====
section
/-! SUPPORT. What each operand form of R209 can say: the whole of `optField?`, `given?`, `givenOpt?` and `givenVia?`. -/

namespace Sys2Proof.Machine

/-- An optional field says absent with presence 0 and zero bytes, its value with presence 1, and nothing else. -/
theorem optField?_eq_some_iff {α : Type} [DecidableEq α] [Zero α] {o : Opt α} {v : Option α} :
    optField? o = some v ↔ (o.pres = 0 ∧ o.val = 0 ∧ v = none) ∨ (o.pres = 1 ∧ v = some o.val) := by
  unfold optField?
  split <;> simp_all [eq_comm]

/-- A field that cannot be absent says not given with selector 0 and zero bytes, its value with selector 1, and nothing else. -/
theorem given?_eq_some_iff {α : Type} [DecidableEq α] [Zero α] {g : Given α} {v : Option α} :
    given? g = some v ↔ (g.sel = 0 ∧ g.val = 0 ∧ v = none) ∨ (g.sel = 1 ∧ v = some g.val) := by
  unfold given?
  split <;> simp_all [eq_comm]

/-- A field that may be absent says absent too, with selector 2 and zero bytes. -/
theorem givenOpt?_eq_some_iff {α : Type} [DecidableEq α] [Zero α] {g : Given α} {v : Option (Option α)} :
    givenOpt? g = some v ↔
      (g.sel = 0 ∧ g.val = 0 ∧ v = none) ∨ (g.sel = 1 ∧ v = some (some g.val)) ∨
        (g.sel = 2 ∧ g.val = 0 ∧ v = some none) := by
  unfold givenOpt?
  split
  · simp_all [eq_comm]
  · rw [Option.map_eq_some_iff]
    constructor
    · rintro ⟨w, hw, rfl⟩
      rcases given?_eq_some_iff.mp hw with ⟨a, b, rfl⟩ | ⟨a, rfl⟩ <;> simp_all
    · rintro (⟨a, b, rfl⟩ | ⟨a, rfl⟩ | ⟨a, -⟩)
      · exact ⟨none, given?_eq_some_iff.mpr (.inl ⟨a, b, rfl⟩), rfl⟩
      · exact ⟨some g.val, given?_eq_some_iff.mpr (.inr ⟨a, rfl⟩), rfl⟩
      · exact absurd a ‹_›

/-- A field read through an encoding says what its value means there. -/
theorem givenVia?_eq_some_iff {α β : Type} [DecidableEq α] [Zero α] {f : α → Option β} {g : Given α} {v : Option β} :
    givenVia? f g = some v ↔ (g.sel = 0 ∧ g.val = 0 ∧ v = none) ∨ (g.sel = 1 ∧ ∃ w, f g.val = some w ∧ v = some w) := by
  unfold givenVia?
  rcases h : given? g with _ | _ | w
  · have := fun v => (given?_eq_some_iff (g := g) (v := v)).mpr
    simp only [h] at this
    constructor
    · simp
    · rintro (⟨a, b, rfl⟩ | ⟨a, w, -, rfl⟩)
      · exact absurd (this none (.inl ⟨a, b, rfl⟩)) (by simp)
      · exact absurd (this (some g.val) (.inr ⟨a, rfl⟩)) (by simp)
  · rcases given?_eq_some_iff.mp h with ⟨a, b, -⟩ | ⟨-, e⟩
    · simp [a, b, eq_comm]
    · simp at e
  · rcases given?_eq_some_iff.mp h with ⟨-, -, e⟩ | ⟨a, e⟩
    · simp at e
    · simp only [Option.some.injEq] at e
      subst e
      simp [a, Option.map_eq_some_iff, eq_comm]

end Sys2Proof.Machine
end

