-- ==== Sys2Proof/Laws/Shapes.lean ====
section
/-! SUPPORT. What the shapes of a meaning can do (R205, R206, R214): a request leaves a response or nothing, an event
acts or nothing; and which commands leave the library, the parameters, the active design and the port's state alone. -/

namespace Sys2Proof.Machine

/-! ## The shapes -/

/-- A request begun with READY high. -/
theorem State.request_ready (s : State) (code : Nat) (f : Part → Reply) (h : s.part.port.ready = true) :
    s.request code f = .next (s.answered (f s.part).1 code (f s.part).2.1 (f s.part).2.2) := by
  rw [State.request, if_pos h]; rfl

/-- A request begun with READY low. -/
theorem State.request_unready (s : State) (code : Nat) (f : Part → Reply) (h : s.part.port.ready = false) :
    s.request code f = .next s := by
  rw [State.request, if_neg (by simp [h])]

/-- An event while the part runs. -/
theorem State.event_awake (s : State) (f : Part → Part) (h : s.part.port.inReset = false) :
    s.event f = .next (s.put (f s.part)) := by
  rw [State.event, if_neg (by simp [h])]; rfl

/-- An event in reset. -/
theorem State.event_inReset (s : State) (f : Part → Part) (h : s.part.port.inReset = true) :
    s.event f = .next s := by
  rw [State.event, if_pos h]

/-- A line event while the part runs. -/
theorem State.lineEvent_awake (s : State) (l : Lines → Lines) (f : Part → Part) (h : s.part.port.inReset = false) :
    s.lineEvent l f = .next (s.put (f { s.part with lines := l s.part.lines })) := by
  exact State.event_awake { s with part := { s.part with lines := l s.part.lines } } f h

/-- A line event in reset: the line has its new level all the same. -/
theorem State.lineEvent_inReset (s : State) (l : Lines → Lines) (f : Part → Part) (h : s.part.port.inReset = true) :
    s.lineEvent l f = .next (s.put { s.part with lines := l s.part.lines }) := by
  exact State.event_inReset { s with part := { s.part with lines := l s.part.lines } } f h

/-- Everything a request can answer. -/
theorem State.request_cases {s t : State} {code : Nat} {f : Part → Reply} (h : s.request code f = .next t) :
    t = s ∨ t = s.answered (f s.part).1 code (f s.part).2.1 (f s.part).2.2 := by
  unfold State.request at h
  split at h
  · exact .inr (by cases h; rfl)
  · exact .inl (by cases h; rfl)

/-- Everything an event can answer. -/
theorem State.event_cases {s t : State} {f : Part → Part} (h : s.event f = .next t) :
    t = s ∨ t = s.put (f s.part) := by
  unfold State.event at h
  split at h
  · exact .inl (by cases h; rfl)
  · exact .inr (by cases h; rfl)

/-- Everything a line event can answer. -/
theorem State.lineEvent_cases {s t : State} {l : Lines → Lines} {f : Part → Part} (h : s.lineEvent l f = .next t) :
    t = s.put { s.part with lines := l s.part.lines } ∨ t = s.put (f { s.part with lines := l s.part.lines }) := by
  rcases State.event_cases h with h | h
  · exact .inl h
  · exact .inr h

/-! ## Invariants over the shapes -/

/-- A property of the part that no response disturbs holds after a request when it holds of what the owner leaves. -/
theorem State.request_keeps {I : Part → Prop} (hold : ∀ p c st x, I p → I (Part.hold p c st x)) {s t : State} {code : Nat}
    {f : Part → Reply} (hf : I s.part → I (f s.part).1) (h : s.request code f = .next t) (hs : I s.part) : I t.part := by
  rcases State.request_cases h with rfl | rfl
  · exact hs
  · exact hold _ _ _ _ (hf hs)

/-- A property of the part holds after an event when it holds of what the event leaves. -/
theorem State.event_keeps {I : Part → Prop} {s t : State} {f : Part → Part} (hf : I s.part → I (f s.part))
    (h : s.event f = .next t) (hs : I s.part) : I t.part := by
  rcases State.event_cases h with rfl | rfl
  · exact hs
  · exact hf hs

/-- A property of the part that no line disturbs holds after a line event when it holds of what the event leaves. -/
theorem State.lineEvent_keeps {I : Part → Prop} (lines : ∀ (p : Part) l, I p → I { p with lines := l }) {s t : State}
    {l : Lines → Lines} {f : Part → Part} (hf : ∀ p, I p → I (f p)) (h : s.lineEvent l f = .next t) (hs : I s.part) :
    I t.part := by
  rcases State.lineEvent_cases h with rfl | rfl
  · exact lines _ _ hs
  · exact hf _ (lines _ _ hs)

/-! ## Commands that leave the library, the parameters and the active design alone -/

/-- The commands that can write the design library, the parameters, the active design's number or the port's state. -/
def writesRecords : Instr → Bool
  | .openDesign _ | .putStitches _ _ _ _ | .putRun _ _ _ | .retireRun _ _ | .amendDesign _ _ _ | .seal _
  | .retireDesign _ _ | .activate _ _ _ _ _ _ _ _ | .deactivate _ | .restart | .amendParameters _ | .sealComplete
  | .resetAssert | .resetRelease => true
  | _ => false

theorem Part.untouched_hold {p q : Part} (c : Nat) (st : Status) (x : List Item) (h : p.Untouched q) :
    p.Untouched (q.hold c st x) := h

theorem untouched_request {s t : State} {code : Nat} {f : Part → Reply} (hf : s.part.Untouched (f s.part).1)
    (h : s.request code f = .next t) : s.part.Untouched t.part :=
  State.request_keeps (I := s.part.Untouched) (fun _ c st x k => Part.untouched_hold c st x k) (fun _ => hf) h
    (Part.untouched_refl _)

theorem untouched_event {s t : State} {f : Part → Part} (hf : s.part.Untouched (f s.part))
    (h : s.event f = .next t) : s.part.Untouched t.part :=
  State.event_keeps (I := s.part.Untouched) (fun _ => hf) h (Part.untouched_refl _)

theorem untouched_lineEvent {s t : State} {l : Lines → Lines} {f : Part → Part} (hf : ∀ p : Part, p.Untouched (f p))
    (h : s.lineEvent l f = .next t) : s.part.Untouched t.part :=
  State.lineEvent_keeps (I := s.part.Untouched) (fun _ _ k => k) (fun p k => Part.untouched_trans k (hf p)) h
    (Part.untouched_refl _)

@[simp] theorem Part.replyDesign_part (p : Part) (d : Nat) (st : Status) : (p.replyDesign d st).1 = p := rfl

@[simp] theorem Part.lookupRun_part (p : Part) (d r : Nat) : (p.lookupRun d r).1 = p := by
  unfold Part.lookupRun; dsimp only; (repeat' split) <;> rfl

@[simp] theorem Part.lookupStitches_part (p : Part) (d i n : Nat) : (p.lookupStitches d i n).1 = p := by
  unfold Part.lookupStitches; dsimp only; (repeat' split) <;> rfl

@[simp] theorem Part.lookupOrdinal_part (p : Part) (d o : Nat) : (p.lookupOrdinal d o).1 = p := by
  unfold Part.lookupOrdinal; dsimp only; (repeat' split) <;> rfl

/-- Every other command leaves them alone. -/
theorem exec_untouched {c : Instr} {s t : State} (hc : writesRecords c = false) (h : exec c s = .next t) :
    s.part.Untouched t.part := by
  cases c <;> first | (cases hc; done) | skip
  all_goals
    simp only [exec_lookupDesign, exec_lookupRun, exec_lookupStitches, exec_lookupOrdinal, exec_lookupLibrary,
      exec_amendHoop, exec_lookupHoop, exec_home, exec_jog, exec_lookupFrame, exec_lookupMachine,
      exec_amendMachine, exec_start, exec_arm, exec_stop, exec_back, exec_fwd, exec_rewind, exec_clear,
      exec_repair, exec_lookupPlan, exec_lookupShaft, exec_lookupChain, exec_amendMap, exec_amendMapMode,
      exec_strobe, exec_automap, exec_lookupMap, exec_lookupMaps, exec_select, exec_cancelChange,
      exec_lookupSelectors, exec_amendThread, exec_retireThread, exec_lookupThread, exec_lookupThreads,
      exec_addSample, exec_retireSample, exec_clearSchedule, exec_lookupSchedule, exec_lookupSensing,
      exec_amendHead, exec_amendClearFaults, exec_amendClearJam, exec_park, exec_restoreHead, exec_lookupHead,
      exec_lookupHeads, exec_retireCase, exec_lookupCase, exec_lookupCases, exec_lookupParameters, exec_fetch,
      exec_estopFall, exec_startLineFall, exec_stopLineFall, exec_mapstrobeFall, exec_encoderCount,
      exec_drvFltFall, exec_homeSensorEdge, exec_headReport, exec_replySlotEnd, exec_idleExchange,
      exec_shaftStanding, exec_positioningComplete, exec_positioningTimeout, exec_indexWatchTrip,
      exec_reverseWatchTrip, exec_lost, exec_selectorDeadlineExpiry, exec_homeNotFound, exec_tensionDeclared,
      exec_breakDeclared, exec_bobbinDeclared, exec_subMoveComplete, exec_traverseLegComplete,
      exec_malformedFrame] at h
  case fetch =>
    refine untouched_event ?_ h
    split <;> exact ⟨rfl, rfl, rfl, rfl, rfl⟩
  case encoderCount =>
    exact State.event_keeps (I := s.part.Untouched) (fun _ => Part.encoderChange_untouched _ _ _) h
      (Part.untouched_refl _)
  all_goals
    first
    | (refine untouched_request ?_ h; first | (simp [Part.Untouched]; done) |
        ((repeat' split) <;> simp [Part.Untouched]))
    | (refine untouched_lineEvent (fun p => ?_) h; first | (simp [Part.Untouched]; done) |
        ((repeat' split) <;> simp [Part.Untouched]))
    | (refine untouched_event ?_ h; first | (simp [Part.Untouched]; done) |
        ((repeat' split) <;> simp [Part.Untouched]))

end Sys2Proof.Machine
end

