-- ==== Sys2Proof/Laws/Tables.lean ====
section
/-! SUPPORT. The shape of the part: no operation but a reset changes the lengths of its tables, none but the schedule requests the
sample schedule, none but an encoder count the shaft angle. -/

namespace Sys2Proof.Machine

/-- The second part has the table lengths, the sample schedule and the shaft angle of the first. -/
abbrev Part.SameShape (p q : Part) : Prop :=
  q.heads.length = p.heads.length ∧ q.chain.links.length = p.chain.links.length ∧
    q.arb.selectors.length = p.arb.selectors.length ∧ q.arb.requests.length = p.arb.requests.length ∧
    q.mon.sensing.length = p.mon.sensing.length ∧ q.mon.threads.map List.length = p.mon.threads.map List.length ∧
    q.cases.records.length = p.cases.records.length ∧ q.cases.marks.length = p.cases.marks.length ∧
    q.arb.slots.length = p.arb.slots.length ∧ q.mon.schedule = p.mon.schedule ∧ q.shaft.angle = p.shaft.angle

/-- The second part has the table lengths of the first. -/
abbrev Part.SameTables (p q : Part) : Prop :=
  q.heads.length = p.heads.length ∧ q.chain.links.length = p.chain.links.length ∧
    q.arb.selectors.length = p.arb.selectors.length ∧ q.arb.requests.length = p.arb.requests.length ∧
    q.mon.sensing.length = p.mon.sensing.length ∧ q.mon.threads.map List.length = p.mon.threads.map List.length ∧
    q.cases.records.length = p.cases.records.length ∧ q.cases.marks.length = p.cases.marks.length ∧
    q.arb.slots.length = p.arb.slots.length

theorem Part.sameShape_refl (p : Part) : p.SameShape p := ⟨rfl, rfl, rfl, rfl, rfl, rfl, rfl, rfl, rfl, rfl, rfl⟩

theorem Part.sameShape_trans {p q r : Part} (h : p.SameShape q) (k : q.SameShape r) : p.SameShape r := by
  obtain ⟨h1, h2, h3, h4, h5, h6, h7, h8, h9, h10, h11⟩ := h
  obtain ⟨k1, k2, k3, k4, k5, k6, k7, k8, k9, k10, k11⟩ := k
  exact ⟨k1.trans h1, k2.trans h2, k3.trans h3, k4.trans h4, k5.trans h5, k6.trans h6, k7.trans h7, k8.trans h8, k9.trans h9,
    k10.trans h10, k11.trans h11⟩

@[simp] theorem length_set1 {α : Type} (l : List α) (i : Nat) (v : α) : (set1 l i v).length = l.length := by
  unfold set1; split <;> simp

/-- A thread record stored in its row keeps the rows' lengths. -/
@[simp] theorem Part.setThread_rows (p : Part) (h n : Nat) (r : Thread) :
    (p.setThread h n r).mon.threads.map List.length = p.mon.threads.map List.length := by
  simp only [Part.setThread, Part.threadsOf, set1, nth1]
  split
  · rfl
  · apply List.ext_getElem
    · simp
    · intro i h1 h2
      simp only [List.length_map, List.length_set] at h1 h2
      by_cases hi : h - 1 = i
      · subst hi; split <;> simp [List.getD_eq_getElem?_getD, h2]
      · simp [hi]

@[simp] theorem Part.setHead_sameShape (p : Part) (h : Nat) (r : Head) : p.SameShape (p.setHead h r) := by
  simp [Part.SameShape, Part.setHead]

@[simp] theorem Part.setLink_sameShape (p : Part) (h : Nat) (r : HeadLink) : p.SameShape (p.setLink h r) := by
  simp [Part.SameShape, Part.setLink]

@[simp] theorem Part.setSelector_sameShape (p : Part) (h : Nat) (r : Selector) : p.SameShape (p.setSelector h r) := by
  simp [Part.SameShape, Part.setSelector]

@[simp] theorem Part.setChangeRequest_sameShape (p : Part) (h : Nat) (r : ChangeRequest) : p.SameShape (p.setChangeRequest h r) := by
  simp [Part.SameShape, Part.setChangeRequest]

@[simp] theorem Part.setSensing_sameShape (p : Part) (h : Nat) (r : Sensing) : p.SameShape (p.setSensing h r) := by
  simp [Part.SameShape, Part.setSensing]

@[simp] theorem Part.setThread_sameShape (p : Part) (h n : Nat) (r : Thread) : p.SameShape (p.setThread h n r) :=
  ⟨rfl, rfl, rfl, rfl, rfl, Part.setThread_rows p h n r, rfl, rfl, rfl, rfl, rfl⟩

@[simp] theorem Shaft.disable_angle (q : Shaft) : q.disable.angle = q.angle := rfl
@[simp] theorem Shaft.raise_angle (q : Shaft) : q.raise.angle = q.angle := rfl
@[simp] theorem Shaft.stand_angle (q : Shaft) : q.stand.angle = q.angle := rfl
@[simp] theorem Shaft.positioned_angle (q : Shaft) : q.positioned.angle = q.angle := rfl
@[simp] theorem Shaft.counted_angle (q : Shaft) (now : Nat) : (q.counted now).angle = q.angle := rfl
@[simp] theorem Shaft.rearm_angle (q : Shaft) (w : Nat) : (q.rearm w).angle = q.angle := rfl
@[simp] theorem Shaft.setSpent_angle (q : Shaft) (b : Bool) (l : Landmark) : (q.setSpent b l).angle = q.angle := by
  cases l <;> rfl
@[simp] theorem Chain.endSewing_links (c : Chain) : c.endSewing.links = c.links := by
  unfold Chain.endSewing; (repeat' split) <;> rfl

theorem foldl_sameShape {α : Type} {f : Part → α → Part} (hf : ∀ (p : Part) (a : α), p.SameShape (f p a))
    (l : List α) (p : Part) :
    p.SameShape (l.foldl f p) := by
  induction l generalizing p with
  | nil => exact Part.sameShape_refl p
  | cons a l ih => exact Part.sameShape_trans (hf p a) (ih _)

theorem Part.forHeads_sameShape {f : Part → Nat → Part} (hf : ∀ (p : Part) (h : Nat), p.SameShape (f p h))
    (hs : List Nat) (p : Part) :
    p.SameShape (p.forHeads hs f) := foldl_sameShape hf hs p

theorem iterate_sameShape {f : Part → Part} (hf : ∀ p : Part, p.SameShape (f p)) (k : Nat) (p : Part) :
    p.SameShape (iterate f k p) := by
  induction k generalizing p with
  | zero => exact Part.sameShape_refl p
  | succ k ih => exact Part.sameShape_trans (hf p) (ih _)

@[simp] theorem Part.observe_sameShape (p : Part) : p.SameShape (Part.observe p) := by
  unfold Part.observe; split
  · exact Part.sameShape_refl p
  · split <;> exact ⟨rfl, rfl, rfl, rfl, rfl, rfl, rfl, rfl, rfl, rfl, rfl⟩

@[simp] theorem Part.startLeg_sameShape (p : Part) (target : Vec) : p.SameShape (Part.startLeg p target) := by
  simp [Part.SameShape, Part.startLeg]

@[simp] theorem Part.startNetLeg_sameShape (p : Part) (c : Nat) : p.SameShape (Part.startNetLeg p c) := by
  simp [Part.SameShape, Part.startNetLeg]

@[simp] theorem Part.stopJog_sameShape (p0 : Part) : p0.SameShape (Part.stopJog p0) := by
  unfold Part.stopJog; dsimp only; (repeat' split) <;> simp [Part.SameShape]

@[simp] theorem Part.startSearch_sameShape (p : Part) : p.SameShape (Part.startSearch p) := by
  simp [Part.SameShape, Part.startSearch]

@[simp] theorem Part.homeEdge_sameShape (p0 : Part) (axis : Axis) (active : Bool) :
    p0.SameShape (Part.homeEdge p0 axis active) := by
  unfold Part.homeEdge; dsimp only; (repeat' split) <;> simp [Part.SameShape]

@[simp] theorem Part.homeMissed_sameShape (p0 : Part) (axis : Axis) : p0.SameShape (Part.homeMissed p0 axis) := by
  simp [Part.SameShape, Part.homeMissed]

@[simp] theorem Part.issueSubMove_sameShape (p : Part) (steps target : Vec) (sewing : Bool) :
    p.SameShape (Part.issueSubMove p steps target sewing) := by
  unfold Part.issueSubMove; split <;> simp [Part.SameShape]

@[simp] theorem Part.commitMove_sameShape (p : Part) (d : Vec) : p.SameShape (Part.commitMove p d) := by
  simp [Part.SameShape, Part.commitMove]

@[simp] theorem Part.lockFrame_sameShape (p0 : Part) : p0.SameShape (Part.lockFrame p0) := by
  unfold Part.lockFrame; dsimp only; (repeat' split) <;> simp [Part.SameShape]

@[simp] theorem Part.resumeMove_sameShape (p : Part) : p.SameShape (Part.resumeMove p) := by
  unfold Part.resumeMove; (repeat' split) <;> simp [Part.SameShape]

@[simp] theorem Part.restartFrame_sameShape (p0 : Part) : p0.SameShape (Part.restartFrame p0) := by
  simp [Part.SameShape, Part.restartFrame]

@[simp] theorem Part.handDemand_sameShape (p : Part) (d : Nat) : p.SameShape (Part.handDemand p d) := by
  simp [Part.SameShape, Part.handDemand]

@[simp] theorem Part.disableDrive_sameShape (p : Part) : p.SameShape (Part.disableDrive p) := by
  simp [Part.SameShape, Part.disableDrive]

@[simp] theorem Part.runOrder_sameShape (p : Part) : p.SameShape (Part.runOrder p).1 := by
  unfold Part.runOrder; (repeat' split) <;> simp [Part.SameShape]

@[simp] theorem Part.stopOrder_sameShape (p : Part) : p.SameShape (Part.stopOrder p) := by
  simp [Part.SameShape, Part.stopOrder]

@[simp] theorem Part.measure_sameShape (p : Part) : p.SameShape (Part.measure p) := by
  unfold Part.measure; split
  · split
    · exact ⟨rfl, rfl, rfl, rfl, rfl, rfl, rfl, rfl, rfl, rfl, rfl⟩
    · split <;> exact ⟨rfl, rfl, rfl, rfl, rfl, rfl, rfl, rfl, rfl, rfl, rfl⟩
  · exact Part.sameShape_refl p

@[simp] theorem Part.putFrame_sameShape (p : Part) (f : ChainFrame) : p.SameShape (Part.putFrame p f) := by
  simp [Part.SameShape, Part.putFrame]

@[simp] theorem Part.startExchange_sameShape (p : Part) (k : ExchangeKind) :
    p.SameShape (Part.startExchange p k) := by
  unfold Part.startExchange; split <;> simp [Part.SameShape]

@[simp] theorem Part.sendCommand_sameShape (k : ExchangeKind) (p : Part) (h : Nat) :
    p.SameShape (Part.sendCommand k p h) := by
  unfold Part.sendCommand; split <;> simp [Part.SameShape]

@[simp] theorem Part.commandPhase_sameShape (p : Part) (x : Exchange) : p.SameShape (Part.commandPhase p x) := by
  exact Part.forHeads_sameShape (Part.sendCommand_sameShape x.kind) _ p

@[simp] theorem Part.revise_sameShape (p : Part) (h : Nat) : p.SameShape (Part.revise p h) := by
  unfold Part.revise; (repeat' split) <;> simp [Part.SameShape]

@[simp] theorem Part.recordLatch_sameShape (hold late : Bool) (p : Part) (h : Nat) :
    p.SameShape (Part.recordLatch hold late p h) := by
  simp [Part.SameShape, Part.recordLatch]

@[simp] theorem Part.recordLatches_sameShape (hold late : Bool) (hs : List Nat) (p : Part) :
    p.SameShape (p.forHeads hs (Part.recordLatch hold late)) := by
  exact Part.forHeads_sameShape (Part.recordLatch_sameShape hold late) hs p

@[simp] theorem Part.commitFrame_sameShape (p : Part) (hold late : Bool) :
    p.SameShape (Part.commitFrame p hold late) := by
  simp [Part.SameShape, Part.commitFrame]

@[simp] theorem Part.trimFrame_sameShape (p : Part) : p.SameShape (Part.trimFrame p) := by
  simp [Part.SameShape, Part.trimFrame]

@[simp] theorem Part.takeSteps_sameShape (p : Part) (d : Vec) : p.SameShape (Part.takeSteps p d).1 := by
  simp [Part.SameShape, Part.takeSteps]

@[simp] theorem Part.takeSplit_sameShape (p : Part) (f : FillPoint) (sv : Served) :
    p.SameShape (Part.takeSplit p f sv).1 := by
  unfold Part.takeSplit; split <;> simp [Part.SameShape]

@[simp] theorem Part.appendPair_sameShape (p0 : Part) (f : FillPoint) (sv : Served) :
    p0.SameShape (Part.appendPair p0 f sv) := by
  unfold Part.appendPair; dsimp only; (repeat' split) <;> simp [Part.SameShape]

@[simp] theorem Part.fillOne_sameShape (p : Part) : p.SameShape (Part.fillOne p) := by
  unfold Part.fillOne; (repeat' split) <;> simp [Part.SameShape]

@[simp] theorem Part.fillQueue_sameShape (p : Part) : p.SameShape (Part.fillQueue p) := by
  unfold Part.fillQueue
  exact iterate_sameShape Part.fillOne_sameShape _ p

@[simp] theorem Part.runLookAhead_sameShape (p : Part) : p.SameShape (Part.runLookAhead p) := by
  simp [Part.SameShape, Part.runLookAhead]

@[simp] theorem Part.firstDemand_sameShape (p : Part) : p.SameShape (Part.firstDemand p) := by
  simp [Part.SameShape, Part.firstDemand]

@[simp] theorem Part.controlledStop_sameShape (p : Part) : p.SameShape (Part.controlledStop p) := by
  unfold Part.controlledStop; (repeat' split) <;> simp [Part.SameShape]

@[simp] theorem Part.nextDemand_sameShape (p : Part) : p.SameShape (Part.nextDemand p) := by
  unfold Part.nextDemand; split <;> simp [Part.SameShape]

@[simp] theorem Part.lateDemand_sameShape (p : Part) : p.SameShape (Part.lateDemand p) := by
  simp [Part.SameShape, Part.lateDemand]

@[simp] theorem Part.flush_sameShape (p : Part) : p.SameShape (Part.flush p) := by
  simp [Part.SameShape, Part.flush]

@[simp] theorem Part.beginFill_sameShape (p : Part) (o : Nat) : p.SameShape (Part.beginFill p o) := by
  simp [Part.SameShape, Part.beginFill]

@[simp] theorem Part.countStop_sameShape (p : Part) (n : Nat) (origin : StopOrigin) :
    p.SameShape (Part.countStop p n origin).1 := by
  unfold Part.countStop; dsimp only; (repeat' split) <;> simp [Part.SameShape]

@[simp] theorem Part.enter_sameShape (p : Part) (st : CtlState) : p.SameShape (Part.enter p st) := by
  simp [Part.SameShape, Part.enter]

@[simp] theorem Part.pend_sameShape (p : Part) (c : Pending) : p.SameShape (Part.pend p c) := by
  simp [Part.SameShape, Part.pend]

@[simp] theorem Part.slowDown_sameShape (p : Part) (c : Pending) : p.SameShape (Part.slowDown p c) := by
  simp [Part.SameShape, Part.slowDown]

@[simp] theorem Part.endTravel_sameShape (p : Part) (cause : Option Cause) :
    p.SameShape (Part.endTravel p cause) := by
  unfold Part.endTravel; split <;> simp [Part.SameShape]

@[simp] theorem Part.askStop_sameShape (p : Part) (c : Pending) : p.SameShape (Part.askStop p c) := by
  unfold Part.askStop; (repeat' split) <;> simp [Part.SameShape]

@[simp] theorem Part.orderStop_sameShape (p : Part) (n : Nat) (c : Pending) (g : StopOrigin) :
    p.SameShape (Part.orderStop p n c g).1 := by
  unfold Part.orderStop; (repeat' split) <;> simp [Part.SameShape]

@[simp] theorem Part.setCase_sameShape (p : Part) (k : Nat) (r : Option Case) : p.SameShape (Part.setCase p k r) := by
  simp [Part.SameShape, Part.setCase]

@[simp] theorem Part.retireCase_sameShape (p : Part) (k : Nat) : p.SameShape (Part.retireCase p k) := by
  simp [Part.SameShape, Part.retireCase]

@[simp] theorem Part.absorbOne_sameShape (k : Nat) (takes : Nat → Bool) (p : Part) (j : Nat) :
    p.SameShape (Part.absorbOne k takes p j) := by
  unfold Part.absorbOne; (repeat' split) <;> simp [Part.SameShape]

@[simp] theorem Part.absorb_sameShape (p : Part) (k : Nat) (takes : Nat → Bool) :
    p.SameShape (Part.absorb p k takes) := by
  unfold Part.absorb
  exact foldl_sameShape (Part.absorbOne_sameShape k takes) _ p

@[simp] theorem Part.supersedeOne_sameShape (h d : Nat) (takes : Case → Bool) (p : Part) (j : Nat) :
    p.SameShape (Part.supersedeOne h d takes p j) := by
  unfold Part.supersedeOne; (repeat' split) <;> simp [Part.SameShape]

@[simp] theorem Part.supersede_sameShape (p : Part) (h d : Nat) (takes : Case → Bool) :
    p.SameShape (Part.supersede p h d takes) := by
  unfold Part.supersede
  exact foldl_sameShape (Part.supersedeOne_sameShape h d takes) _ p

@[simp] theorem Part.settleOpen_sameShape (p : Part) (k : Nat) : p.SameShape (Part.settleOpen p k) := by
  unfold Part.settleOpen; dsimp only; (repeat' split) <;> simp [Part.SameShape]

@[simp] theorem Part.openCase_sameShape (p : Part) (h o : Nat) (f : Option Nat) :
    p.SameShape (Part.openCase p h o f) := by
  unfold Part.openCase; (repeat' split) <;> simp [Part.SameShape]

@[simp] theorem Part.reopenBelow_sameShape (p : Part) (k o : Nat) (r : Case) :
    p.SameShape (Part.reopenBelow p k o r) := by
  unfold Part.reopenBelow; (repeat' split) <;> simp [Part.SameShape]

@[simp] theorem Part.closeCase_sameShape (p : Part) (x k : Nat) : p.SameShape (Part.closeCase p x k) := by
  unfold Part.closeCase; dsimp only; (repeat' split) <;> simp [Part.SameShape]

@[simp] theorem Part.closeOpenOf_sameShape (p : Part) (h x : Nat) : p.SameShape (Part.closeOpenOf p h x) := by
  unfold Part.closeOpenOf; split <;> simp [Part.SameShape]

@[simp] theorem Part.closeAllOpen_sameShape (p : Part) (x : Nat) : p.SameShape (Part.closeAllOpen p x) := by
  unfold Part.closeAllOpen
  exact Part.forHeads_sameShape (fun p h => Part.closeOpenOf_sameShape p h x) _ p

@[simp] theorem Part.parkTold_sameShape (p : Part) (h : Nat) (breakOrdinal : Option Nat) :
    p.SameShape (Part.parkTold p h breakOrdinal) := by
  unfold Part.parkTold; dsimp only; (repeat' split) <;> simp [Part.SameShape]

@[simp] theorem Part.openForParked_sameShape (p : Part) : p.SameShape (Part.openForParked p) := by
  unfold Part.openForParked
  exact Part.forHeads_sameShape (fun p h => by split <;> simp [Part.SameShape]) _ p

@[simp] theorem Part.commitOpen_sameShape (o : Nat) (p : Part) (h : Nat) : p.SameShape (Part.commitOpen o p h) := by
  unfold Part.commitOpen; (repeat' split) <;> simp [Part.SameShape]

@[simp] theorem Part.trimFront_sameShape (o : Nat) (p : Part) (k : Nat) : p.SameShape (Part.trimFront o p k) := by
  unfold Part.trimFront; (repeat' split) <;> simp [Part.SameShape]

@[simp] theorem Part.recordMissed_sameShape (p : Part) (h o : Nat) : p.SameShape (Part.recordMissed p h o) := by
  unfold Part.recordMissed; dsimp only; (repeat' split) <;> simp [Part.SameShape]

@[simp] theorem Part.commitMark_sameShape (o : Nat) (sewn : Bool) (p : Part) (h : Nat) :
    p.SameShape (Part.commitMark o sewn p h) := by
  unfold Part.commitMark; split <;> simp [Part.SameShape]

@[simp] theorem Part.dropMarks_sameShape (p : Part) : p.SameShape (Part.dropMarks p) := by
  simp [Part.SameShape, Part.dropMarks]

@[simp] theorem Part.commitCases_sameShape (p : Part) (o : Nat) (sewn : Bool) :
    p.SameShape (Part.commitCases p o sewn) := by
  unfold Part.commitCases
  exact Part.sameShape_trans
    (Part.sameShape_trans (Part.forHeads_sameShape (Part.commitOpen_sameShape o) _ p)
      (foldl_sameShape (Part.trimFront_sameShape o) _ _))
    (Part.sameShape_trans (Part.forHeads_sameShape (Part.commitMark_sameShape o sewn) _ _)
      (Part.dropMarks_sameShape _))

@[simp] theorem Part.markRestore_sameShape (p : Part) (h : Nat) : p.SameShape (Part.markRestore p h) := by
  unfold Part.markRestore; split <;> simp [Part.SameShape]

@[simp] theorem Part.discardCases_sameShape (p : Part) (d : Nat) (takes : CaseState → Bool) :
    p.SameShape (Part.discardCases p d takes) := by
  simp [Part.SameShape, Part.discardCases]

@[simp] theorem Part.releaseCase_sameShape (p : Part) (k : Nat) : p.SameShape (Part.releaseCase p k) := by
  unfold Part.releaseCase; split <;> simp [Part.SameShape]

@[simp] theorem Part.settleCase_sameShape (p : Part) (k : Nat) (breakOrdinal : Option Nat) :
    p.SameShape (Part.settleCase p k breakOrdinal) := by
  unfold Part.settleCase; split <;> simp [Part.SameShape]

@[simp] theorem Part.repairProgress_sameShape (p : Part) (k h o : Nat) (sewn : Bool) :
    p.SameShape (Part.repairProgress p k h o sewn) := by
  unfold Part.repairProgress; (repeat' split) <;> simp [Part.SameShape]

@[simp] theorem Part.recordStrobe_sameShape (p : Part) (src : StrobeSource) (x : Staged) (o : StrobeOutcome) :
    p.SameShape (Part.recordStrobe p src x o) := by
  simp [Part.SameShape, Part.recordStrobe]

@[simp] theorem Part.applyStrobe_sameShape (p : Part) (src : StrobeSource) (x : Staged) :
    p.SameShape (Part.applyStrobe p src x) := by
  unfold Part.applyStrobe; split <;> simp [Part.SameShape]

@[simp] theorem Part.discardHeld_sameShape (p : Part) : p.SameShape (Part.discardHeld p) := by
  unfold Part.discardHeld; split <;> simp [Part.SameShape]

@[simp] theorem Part.takeStrobe_sameShape (p : Part) (src : StrobeSource) (x : Staged) :
    p.SameShape (Part.takeStrobe p src x) := by
  unfold Part.takeStrobe; (repeat' split) <;> simp [Part.SameShape]

@[simp] theorem Part.applyHeld_sameShape (p : Part) : p.SameShape (Part.applyHeld p) := by
  unfold Part.applyHeld; split <;> simp [Part.SameShape]

@[simp] theorem Part.strobeStep_sameShape (p : Part) : p.SameShape (Part.strobeStep p) := by
  unfold Part.strobeStep; (repeat' split) <;> simp [Part.SameShape]

@[simp] theorem Part.resetCounts_sameShape (p : Part) (h : Nat) : p.SameShape (Part.resetCounts p h) := by
  simp [Part.SameShape, Part.resetCounts]

@[simp] theorem Part.latchNeedle_sameShape (p : Part) (h : Nat) (v : Option Nat) :
    p.SameShape (Part.latchNeedle p h v) := by
  unfold Part.latchNeedle; (repeat' split) <;> simp [Part.SameShape]

@[simp] theorem Part.restSelector_sameShape (p : Part) (h n : Nat) : p.SameShape (Part.restSelector p h n) := by
  simp [Part.SameShape, Part.restSelector]

@[simp] theorem Part.unrest_sameShape (p : Part) (h : Nat) (st : SelectorState) :
    p.SameShape (Part.unrest p h st) := by
  simp [Part.SameShape, Part.unrest]

@[simp] theorem Part.putThread_sameShape (p : Part) (h n : Nat) (t : Thread) :
    p.SameShape (Part.putThread p h n t) := by
  unfold Part.putThread; split <;> simp [Part.SameShape]

@[simp] theorem Part.parkHead_sameShape (p : Part) (h : Nat) (cause : ParkCause) (breakOrdinal : Option Nat) :
    p.SameShape (Part.parkHead p h cause breakOrdinal) := by
  unfold Part.parkHead; split <;> simp [Part.SameShape]

@[simp] theorem Part.restore_sameShape (p : Part) (h : Nat) : p.SameShape (Part.restore p h) := by
  simp [Part.SameShape, Part.restore]

@[simp] theorem Part.latchFault_sameShape (p : Part) (h : Nat) (k : FaultKind) :
    p.SameShape (Part.latchFault p h k) := by
  unfold Part.latchFault; split <;> simp [Part.SameShape]

@[simp] theorem Part.repairFault_sameShape (p : Part) (r : Repair) (k : FaultKind) (o : Option Nat) :
    p.SameShape (Part.repairFault p r k o) := by
  unfold Part.repairFault; split <;> simp [Part.SameShape]

@[simp] theorem Part.actOn_sameShape (p : Part) (h : Nat) (k : FaultKind) (o : Option Nat) (silent : Bool) :
    p.SameShape (Part.actOn p h k o silent) := by
  unfold Part.actOn; (repeat' split) <;> simp [Part.SameShape]

@[simp] theorem Part.takeAction_sameShape (p : Part) (h : Nat) (k : FaultKind) (o : Option Nat) (silent : Bool) :
    p.SameShape (Part.takeAction p h k o silent) := by
  unfold Part.takeAction; (repeat' split) <;> simp [Part.SameShape]

@[simp] theorem Part.declare_sameShape (p : Part) (h : Nat) (k : FaultKind) (o : Option Nat) (silent : Bool) :
    p.SameShape (Part.declare p h k o silent) := by
  unfold Part.declare; split <;> simp [Part.SameShape]

@[simp] theorem Part.addRequest_sameShape (p : Part) (h target : Nat) (origin : RequestOrigin) (changeNo : Option Nat) :
    p.SameShape (Part.addRequest p h target origin changeNo) := by
  unfold Part.addRequest; split <;> simp [Part.SameShape]

@[simp] theorem Part.grantTo_sameShape (p : Part) (i h : Nat) : p.SameShape (Part.grantTo p i h) := by
  simp [Part.SameShape, Part.grantTo]

@[simp] theorem Part.grantOne_sameShape (p : Part) : p.SameShape (Part.grantOne p) := by
  unfold Part.grantOne; (repeat' split) <;> simp [Part.SameShape]

@[simp] theorem Part.grants_sameShape (p : Part) : p.SameShape (Part.grants p) := by
  unfold Part.grants
  exact iterate_sameShape Part.grantOne_sameShape _ p

@[simp] theorem Part.releaseSlot_sameShape (p : Part) (h : Nat) : p.SameShape (Part.releaseSlot p h) := by
  simp [Part.SameShape, Part.releaseSlot]

@[simp] theorem Part.fitParked_sameShape (p : Part) (slot h : Nat) : p.SameShape (Part.fitParked p slot h) := by
  unfold Part.fitParked; split <;> simp [Part.SameShape]

@[simp] theorem Part.countOutcome_sameShape (p : Part) (h : Nat) (o : CheckOutcome) :
    p.SameShape (Part.countOutcome p h o) := by
  unfold Part.countOutcome; split <;> simp [Part.SameShape]

@[simp] theorem Part.applyOutcome_sameShape (p : Part) (h : Nat) (o : CheckOutcome) :
    p.SameShape (Part.applyOutcome p h o) := by
  unfold Part.applyOutcome; split <;> simp [Part.SameShape]

@[simp] theorem Part.checkHead_sameShape (block slot : Nat) (p : Part) (h : Nat) :
    p.SameShape (Part.checkHead block slot p h) := by
  unfold Part.checkHead; split <;> simp [Part.SameShape]

@[simp] theorem Part.checkOpening_sameShape (p : Part) (block : Nat) : p.SameShape (Part.checkOpening p block) := by
  simp [Part.SameShape, Part.checkOpening]

@[simp] theorem Part.clearSkips_sameShape (p : Part) : p.SameShape (Part.clearSkips p) := by
  simp [Part.SameShape, Part.clearSkips]

@[simp] theorem Part.checkHeads_sameShape (block slot : Nat) (hs : List Nat) (p : Part) :
    p.SameShape (p.forHeads hs (Part.checkHead block slot)) := by
  exact Part.forHeads_sameShape (Part.checkHead_sameShape block slot) hs p

@[simp] theorem Part.trialCheck_sameShape (p : Part) (block slot : Nat) :
    p.SameShape (Part.trialCheck p block slot).1 := by
  unfold Part.trialCheck; dsimp only; split
  · simp [Part.SameShape]
  · exact Part.sameShape_trans (Part.checkOpening_sameShape p block)
      (Part.forHeads_sameShape (Part.checkHead_sameShape block slot) _ _)

@[simp] theorem Part.newChange_sameShape (p : Part) (kind : ChangeKind) (block slot : Nat) :
    p.SameShape (Part.newChange p kind block slot) := by
  simp [Part.SameShape, Part.newChange]

@[simp] theorem Part.fullCheck_sameShape (p : Part) (block slot : Nat) :
    p.SameShape (Part.fullCheck p block slot) := by
  simp [Part.SameShape, Part.fullCheck]

@[simp] theorem Part.endRequest_sameShape (p : Part) (h : Nat) (st : RequestState) (occurred : Bool) :
    p.SameShape (Part.endRequest p h st occurred) := by
  simp [Part.SameShape, Part.endRequest]

@[simp] theorem Part.examineWaiting_sameShape (p : Part) (h : Nat) : p.SameShape (Part.examineWaiting p h) := by
  unfold Part.examineWaiting; (repeat' split) <;> simp [Part.SameShape]

@[simp] theorem Part.noticeManual_sameShape (p : Part) (h : Nat) : p.SameShape (Part.noticeManual p h) := by
  unfold Part.noticeManual; split <;> simp [Part.SameShape]

@[simp] theorem Part.setJamStop_sameShape (p : Part) : p.SameShape (Part.setJamStop p) := by
  unfold Part.setJamStop; split <;> simp [Part.SameShape]

@[simp] theorem Part.cutSelector_sameShape (p : Part) (h : Nat) : p.SameShape (Part.cutSelector p h) := by
  unfold Part.cutSelector; split <;> simp [Part.SameShape]

@[simp] theorem Part.abortRequest_sameShape (p : Part) (h : Nat) : p.SameShape (Part.abortRequest p h) := by
  unfold Part.abortRequest; split <;> simp [Part.SameShape]

@[simp] theorem Part.cutSelectors_sameShape (hs : List Nat) (p : Part) :
    p.SameShape (p.forHeads hs (Part.cutSelector)) := by
  exact Part.forHeads_sameShape (Part.cutSelector_sameShape) hs p

@[simp] theorem Part.cutAborts_sameShape (hs : List Nat) (p : Part) :
    p.SameShape (p.forHeads hs fun q h => (q.cutSelector h).abortRequest h) := by
  exact Part.forHeads_sameShape (fun q h => by simp [Part.SameShape]) hs p

@[simp] theorem Part.lockArbiter_sameShape (p : Part) : p.SameShape (Part.lockArbiter p) := by
  simp [Part.SameShape, Part.lockArbiter]

@[simp] theorem Part.restartArbiter_sameShape (p : Part) : p.SameShape (Part.restartArbiter p) := by
  simp [Part.SameShape, Part.restartArbiter]

@[simp] theorem Part.enterReady_sameShape (p : Part) (cause : Cause) : p.SameShape (Part.enterReady p cause) := by
  simp [Part.SameShape, Part.enterReady]

@[simp] theorem Part.stopIn_sameShape (p : Part) (cause : Cause) : p.SameShape (Part.stopIn p cause) := by
  simp [Part.SameShape, Part.stopIn]

@[simp] theorem Part.enterUnready_sameShape (p : Part) : p.SameShape (Part.enterUnready p) := by
  simp [Part.SameShape, Part.enterUnready]

@[simp] theorem Part.enterTraversing_sameShape (p : Part) (t : Travel) : p.SameShape (Part.enterTraversing p t) := by
  simp [Part.SameShape, Part.enterTraversing]

@[simp] theorem Part.setCur_sameShape (p : Part) (c : Nat) : p.SameShape (Part.setCur p c) := by
  simp [Part.SameShape, Part.setCur]

@[simp] theorem Part.voidOpen_sameShape (p : Part) : p.SameShape (Part.voidOpen p) := by
  simp [Part.SameShape, Part.voidOpen]

@[simp] theorem Part.lock_sameShape (p : Part) (cause : LockCause) : p.SameShape (Part.lock p cause) := by
  unfold Part.lock; split <;> simp [Part.SameShape]

@[simp] theorem Part.orderRun_sameShape (p : Part) : p.SameShape (Part.orderRun p) := by
  unfold Part.orderRun; split <;> simp [Part.SameShape]

@[simp] theorem Part.startSewing_sameShape (p : Part) : p.SameShape (Part.startSewing p) := by
  simp [Part.SameShape, Part.startSewing]

@[simp] theorem Part.finishChange_sameShape (p : Part) (c : ChangeRecord) : p.SameShape (Part.finishChange p c) := by
  unfold Part.finishChange; dsimp only; (repeat' split) <;> simp [Part.SameShape]

@[simp] theorem Part.checkChange_sameShape (p : Part) : p.SameShape (Part.checkChange p) := by
  unfold Part.checkChange; (repeat' split) <;> simp [Part.SameShape]

@[simp] theorem Part.enterChanging_sameShape (p : Part) (kind : ChangeKind) (slot : Nat) :
    p.SameShape (Part.enterChanging p kind slot) := by
  simp [Part.SameShape, Part.enterChanging]

@[simp] theorem Part.takeStart_sameShape (p : Part) : p.SameShape (Part.takeStart p) := by
  unfold Part.takeStart; dsimp only; (repeat' split) <;> simp [Part.SameShape]

@[simp] theorem Part.disarm_sameShape (p : Part) : p.SameShape (Part.disarm p) := by
  simp [Part.SameShape, Part.disarm]

@[simp] theorem Part.endStop_sameShape (p0 : Part) : p0.SameShape (Part.endStop p0) := by
  unfold Part.endStop; dsimp only; (repeat' split) <;> simp [Part.SameShape]

@[simp] theorem Part.startStep_sameShape (p : Part) (forward : Bool) : p.SameShape (Part.startStep p forward) := by
  simp [Part.SameShape, Part.startStep]

@[simp] theorem Part.stepDone_sameShape (p : Part) (t : Travel) (target : Nat) (forward : Bool) :
    p.SameShape (Part.stepDone p t target forward) := by
  unfold Part.stepDone; dsimp only; (repeat' split) <;> simp [Part.SameShape]

@[simp] theorem Part.setRepair_sameShape (p : Part) (r : Repair) : p.SameShape (Part.setRepair p r) := by
  simp [Part.SameShape, Part.setRepair]

@[simp] theorem Part.goHome_sameShape (p : Part) (r : Repair) (cause : Cause) :
    p.SameShape (Part.goHome p r cause) := by
  simp [Part.SameShape, Part.goHome]

@[simp] theorem Part.endUnsewn_sameShape (p : Part) (r : Repair) (cause : Cause) :
    p.SameShape (Part.endUnsewn p r cause) := by
  simp [Part.SameShape, Part.endUnsewn]

@[simp] theorem Part.repairSew_sameShape (p : Part) (r : Repair) (n : Nat) : p.SameShape (Part.repairSew p r n) := by
  unfold Part.repairSew; split <;> simp [Part.SameShape]

@[simp] theorem Part.prepared_sameShape (p : Part) (r : Repair) (n : Except Cause Nat) :
    p.SameShape (Part.prepared p r n) := by
  unfold Part.prepared; (repeat' split) <;> simp [Part.SameShape]

@[simp] theorem Part.prepare_sameShape (p0 : Part) (r0 : Repair) : p0.SameShape (Part.prepare p0 r0) := by
  unfold Part.prepare; dsimp only; (repeat' split) <;> simp [Part.SameShape]

@[simp] theorem Part.outboundDone_sameShape (p : Part) (r : Repair) : p.SameShape (Part.outboundDone p r) := by
  unfold Part.outboundDone; split <;> simp [Part.SameShape]

@[simp] theorem Part.homeboundDone_sameShape (p : Part) (r : Repair) : p.SameShape (Part.homeboundDone p r) := by
  simp [Part.SameShape, Part.homeboundDone]

@[simp] theorem Part.repairStopped_sameShape (p : Part) (r : Repair) : p.SameShape (Part.repairStopped p r) := by
  simp [Part.SameShape, Part.repairStopped]

@[simp] theorem Part.revises_sameShape (hs : List Nat) (p : Part) :
    p.SameShape (p.forHeads hs (Part.revise)) := by
  exact Part.forHeads_sameShape (Part.revise_sameShape) hs p

@[simp] theorem Part.takeRepair_sameShape (p : Part) (k : Nat) (q : Case) : p.SameShape (Part.takeRepair p k q) := by
  unfold Part.takeRepair; dsimp only; split
  · split <;> simp [Part.SameShape]
  · simp [Part.SameShape]

@[simp] theorem Part.examineEnd_sameShape (p0 : Part) (h : Nat) : p0.SameShape (Part.examineEnd p0 h) := by
  unfold Part.examineEnd; dsimp only; (repeat' split) <;> simp [Part.SameShape]

@[simp] theorem Part.finishRequest_sameShape (p : Part) (h : Nat) (st : RequestState) (occurred : Bool) :
    p.SameShape (Part.finishRequest p h st occurred) := by
  simp [Part.SameShape, Part.finishRequest]

@[simp] theorem Part.arrival_sameShape (p : Part) (h : Nat) : p.SameShape (Part.arrival p h) := by
  simp [Part.SameShape, Part.arrival]

@[simp] theorem Part.setHalt_sameShape (p : Part) (h : Nat) (b : Bool) : p.SameShape (Part.setHalt p h b) := by
  simp [Part.SameShape, Part.setHalt]

@[simp] theorem Part.deadline_sameShape (p : Part) (h : Nat) : p.SameShape (Part.deadline p h) := by
  unfold Part.deadline; dsimp only; (repeat' split) <;> simp [Part.SameShape]

@[simp] theorem Part.raiseLost_sameShape (p : Part) (h : Nat) : p.SameShape (Part.raiseLost p h) := by
  unfold Part.raiseLost; split <;> simp [Part.SameShape]

@[simp] theorem Part.disturb_sameShape (p : Part) (h : Nat) : p.SameShape (Part.disturb p h) := by
  unfold Part.disturb; split <;> simp [Part.SameShape]

@[simp] theorem Part.reportPosition_sameShape (p0 : Part) (h : Nat) (detent : Option Nat) (moving : Bool) :
    p0.SameShape (Part.reportPosition p0 h detent moving) := by
  unfold Part.reportPosition; dsimp only; (repeat' split) <;> simp [Part.SameShape]

@[simp] theorem Part.cancelRequest_sameShape (p : Part) (h : Nat) : p.SameShape (Part.cancelRequest p h).1 := by
  unfold Part.cancelRequest; dsimp only; (repeat' split) <;> simp [Part.SameShape]

@[simp] theorem Part.finishClear_sameShape (p : Part) : p.SameShape (Part.finishClear p) := by
  unfold Part.finishClear; split <;> simp [Part.SameShape]

@[simp] theorem Part.countLeg_sameShape (p : Part) : p.SameShape (Part.countLeg p) := by
  unfold Part.countLeg; split <;> simp [Part.SameShape]

@[simp] theorem Part.settleRepair_sameShape (p : Part) : p.SameShape (Part.settleRepair p) := by
  unfold Part.settleRepair; (repeat' split) <;> simp [Part.SameShape]

@[simp] theorem Part.clearLegDone_sameShape (p : Part) : p.SameShape (Part.clearLegDone p) := by
  unfold Part.clearLegDone; (repeat' split) <;> simp [Part.SameShape]

@[simp] theorem Part.clearLeg_sameShape (p : Part) : p.SameShape (Part.clearLeg p) := by
  unfold Part.clearLeg; (repeat' split) <;> simp [Part.SameShape]

@[simp] theorem Part.takeClear_sameShape (p0 : Part) : p0.SameShape (Part.takeClear p0).1 := by
  unfold Part.takeClear; dsimp only; (repeat' split) <;> simp [Part.SameShape]

@[simp] theorem Part.legDone_sameShape (p : Part) : p.SameShape (Part.legDone p) := by
  unfold Part.legDone; (repeat' split) <;> simp [Part.SameShape]

@[simp] theorem Part.searchDone_sameShape (p : Part) : p.SameShape (Part.searchDone p) := by
  unfold Part.searchDone; split <;> simp [Part.SameShape]

@[simp] theorem Part.lockIfEstop_sameShape (p : Part) : p.SameShape (Part.lockIfEstop p) := by
  unfold Part.lockIfEstop; split <;> simp [Part.SameShape]

@[simp] theorem Part.abortPending_sameShape (p : Part) (h : Nat) : p.SameShape (Part.abortPending p h) := by
  unfold Part.abortPending; split <;> simp [Part.SameShape]

@[simp] theorem Part.disableHead_sameShape (p : Part) (h : Nat) : p.SameShape (Part.disableHead p h) := by
  unfold Part.disableHead; dsimp only; (repeat' split) <;> simp [Part.SameShape]

@[simp] theorem Part.enableHead_sameShape (p : Part) (h : Nat) : p.SameShape (Part.enableHead p h) := by
  unfold Part.enableHead; dsimp only; (repeat' split) <;> simp [Part.SameShape]

@[simp] theorem Part.keepLength_sameShape (p : Part) (o l : Nat) : p.SameShape (Part.keepLength p o l) := by
  simp [Part.SameShape, Part.keepLength]

@[simp] theorem Part.tensionSample_sameShape (h o : Nat) (t : Thread) (p : Part) (s : SampleUse × Option Nat) :
    p.SameShape (Part.tensionSample h o t p s) := by
  unfold Part.tensionSample; dsimp only; (repeat' split) <;> simp [Part.SameShape]

@[simp] theorem Part.declareBreak_sameShape (p : Part) (h n o : Nat) : p.SameShape (Part.declareBreak p h n o) := by
  simp [Part.SameShape, Part.declareBreak]

@[simp] theorem Part.motionTest_sameShape (p : Part) (h n o : Nat) (low : Bool) :
    p.SameShape (Part.motionTest p h n o low) := by
  unfold Part.motionTest; dsimp only; (repeat' split) <;> simp [Part.SameShape]

@[simp] theorem Part.unnote_sameShape (p : Part) (h : Nat) (l : Latch) : p.SameShape (Part.unnote p h l) := by
  unfold Part.unnote; split <;> simp [Part.SameShape]

@[simp] theorem Part.setLastSpan_sameShape (p : Part) (h : Nat) (s : LastSpan) :
    p.SameShape (Part.setLastSpan p h s) := by
  simp [Part.SameShape, Part.setLastSpan]

@[simp] theorem Part.tensionSamples_sameShape (h o : Nat) (t : Thread) (l : List (SampleUse × Option Nat)) (p : Part) :
    p.SameShape (l.foldl (Part.tensionSample h o t) p) := by
  exact foldl_sameShape (Part.tensionSample_sameShape h o t) l p

@[simp] theorem Part.evaluateSpan_sameShape (p : Part) (h o n : Nat) (l : Latch) (r : Report) :
    p.SameShape (Part.evaluateSpan p h o n l r) := by
  simp [Part.SameShape, Part.evaluateSpan]

@[simp] theorem Part.deliverSpan_sameShape (p0 : Part) (h : Nat) (report : Option Report) :
    p0.SameShape (Part.deliverSpan p0 h report) := by
  unfold Part.deliverSpan; dsimp only; (repeat' split) <;> simp [Part.SameShape]

@[simp] theorem Part.drawBobbin_sameShape (o len : Nat) (p : Part) (h : Nat) :
    p.SameShape (Part.drawBobbin o len p h) := by
  unfold Part.drawBobbin; (repeat' split) <;> simp [Part.SameShape]

@[simp] theorem Part.drawBobbins_sameShape (p : Part) (o len : Nat) : p.SameShape (Part.drawBobbins p o len) := by
  unfold Part.drawBobbins
  exact Part.forHeads_sameShape (Part.drawBobbin_sameShape o len) _ p

@[simp] theorem Part.pressButton_sameShape (p : Part) (h : Nat) : p.SameShape (Part.pressButton p h).1 := by
  unfold Part.pressButton; (repeat' split) <;> simp [Part.SameShape]

@[simp] theorem Part.buttonFlag_sameShape (p : Part) (h : Nat) (flag : Bool) :
    p.SameShape (Part.buttonFlag p h flag) := by
  unfold Part.buttonFlag; dsimp only; (repeat' split) <;> simp [Part.SameShape]

@[simp] theorem Part.countReport_sameShape (p : Part) (h : Nat) (valid : Bool) :
    p.SameShape (Part.countReport p h valid) := by
  unfold Part.countReport; dsimp only; (repeat' split) <;> simp [Part.SameShape]

@[simp] theorem Part.takeReport_sameShape (p : Part) (k : ExchangeKind) (h : Nat) (o : ReportOutcome) (report : Option Report) :
    p.SameShape (Part.takeReport p k h o report) := by
  unfold Part.takeReport; (repeat' split) <;> simp [Part.SameShape]

@[simp] theorem Part.nextSlot_sameShape (p : Part) : p.SameShape (Part.nextSlot p) := by
  unfold Part.nextSlot; (repeat' split) <;> simp [Part.SameShape]

@[simp] theorem Part.receive_sameShape (p : Part) (frame : List Byte) : p.SameShape (Part.receive p frame) := by
  unfold Part.receive; (repeat' split) <;> simp [Part.SameShape]

@[simp] theorem Part.slotEnd_sameShape (p : Part) (anyByte : Bool) : p.SameShape (Part.slotEnd p anyByte) := by
  unfold Part.slotEnd; split <;> simp [Part.SameShape]

@[simp] theorem Part.idleExchange_sameShape (p : Part) : p.SameShape (Part.idleExchange p) := by
  unfold Part.idleExchange; split <;> simp [Part.SameShape]

@[simp] theorem Part.setHeadEntry_sameShape (p : Part) (e : Entry) : p.SameShape (Part.setHeadEntry p e) := by
  simp [Part.SameShape, Part.setHeadEntry]

@[simp] theorem Part.windowStart_sameShape (p : Part) : p.SameShape (Part.windowStart p) := by
  unfold Part.windowStart; (repeat' split) <;> simp [Part.SameShape]

@[simp] theorem Part.subMoveComplete_sameShape (p : Part) : p.SameShape (Part.subMoveComplete p) := by
  unfold Part.subMoveComplete; dsimp only; (repeat' split) <;> simp [Part.SameShape]

@[simp] theorem Part.ordinalCommit_sameShape (p : Part) (sv : Served) : p.SameShape (Part.ordinalCommit p sv) := by
  unfold Part.ordinalCommit; dsimp only; (repeat' split) <;> simp [Part.SameShape]

@[simp] theorem Part.commitOrdinal_sameShape (p : Part) (sv : Served) : p.SameShape (Part.commitOrdinal p sv) := by
  unfold Part.commitOrdinal; split <;> simp [Part.SameShape]

@[simp] theorem Part.stopReached_sameShape (p : Part) : p.SameShape (Part.stopReached p) := by
  unfold Part.stopReached; (repeat' split) <;> simp [Part.SameShape]

@[simp] theorem Part.commitEntry_sameShape (p : Part) (e : Entry) : p.SameShape (Part.commitEntry p e) := by
  unfold Part.commitEntry; dsimp only; (repeat' split) <;> simp [Part.SameShape]

@[simp] theorem Part.commitAngle_sameShape (p : Part) : p.SameShape (Part.commitAngle p) := by
  unfold Part.commitAngle; (repeat' split) <;> simp [Part.SameShape]

@[simp] theorem Part.actOnLandmark_sameShape (p : Part) (l : Landmark) : p.SameShape (Part.actOnLandmark p l) := by
  unfold Part.actOnLandmark; split <;> simp [Part.SameShape]

@[simp] theorem Part.deliverLandmark_sameShape (p : Part) (l : Landmark) :
    p.SameShape (Part.deliverLandmark p l) := by
  simp [Part.SameShape, Part.deliverLandmark]

@[simp] theorem Part.indexTrip_sameShape (p : Part) : p.SameShape (Part.indexTrip p) := by
  simp [Part.SameShape, Part.indexTrip]

@[simp] theorem Part.reverseTrip_sameShape (p : Part) : p.SameShape (Part.reverseTrip p) := by
  simp [Part.SameShape, Part.reverseTrip]

@[simp] theorem Part.deliverLandmarks_sameShape (l : List Landmark) (p : Part) :
    p.SameShape (l.foldl Part.deliverLandmark p) := by
  exact foldl_sameShape Part.deliverLandmark_sameShape l p

@[simp] theorem Part.amendHoop_sameShape (p0 : Part) (b : Box) : p0.SameShape (Part.amendHoop p0 b).1 := by
  unfold Part.amendHoop; dsimp only; (repeat' split) <;> simp [Part.SameShape]

@[simp] theorem Part.takeHome_sameShape (p : Part) : p.SameShape (Part.takeHome p).1 := by
  unfold Part.takeHome; split <;> simp [Part.SameShape]

@[simp] theorem Part.takeJog_sameShape (p : Part) (mode : Nat) (v : Vec) : p.SameShape (Part.takeJog p mode v).1 := by
  unfold Part.takeJog; dsimp only; (repeat' split) <;> simp [Part.SameShape]

@[simp] theorem Part.sensorEdge_sameShape (p : Part) (axis : Axis) (active : Bool) :
    p.SameShape (Part.sensorEdge p axis active) := by
  unfold Part.sensorEdge; dsimp only; (repeat' split) <;> simp [Part.SameShape]

@[simp] theorem Part.amendMachine_sameShape (p0 : Part) (speed : Given Nat) :
    p0.SameShape (Part.amendMachine p0 speed).1 := by
  unfold Part.amendMachine; split <;> simp [Part.SameShape]

@[simp] theorem Part.discardActive_sameShape (p : Part) (drop : Bool) : p.SameShape (Part.discardActive p drop) := by
  unfold Part.discardActive; (repeat' split) <;> simp [Part.SameShape]

@[simp] theorem Part.startRequest_sameShape (p : Part) : p.SameShape (Part.startRequest p).1 := by
  unfold Part.startRequest; (repeat' split) <;> simp [Part.SameShape]

@[simp] theorem Part.setArmed_sameShape (p : Part) (b : Bool) : p.SameShape (Part.setArmed p b) := by
  simp [Part.SameShape, Part.setArmed]

@[simp] theorem Part.arm_sameShape (p : Part) (on : Nat) : p.SameShape (Part.arm p on).1 := by
  unfold Part.arm; (repeat' split) <;> simp [Part.SameShape]

@[simp] theorem Part.stopRequest_sameShape (p : Part) (n : Nat) : p.SameShape (Part.stopRequest p n).1 := by
  unfold Part.stopRequest; dsimp only; split <;> simp [Part.SameShape]

@[simp] theorem Part.travel_sameShape (p : Part) (forward : Bool) (n : Nat) :
    p.SameShape (Part.travel p forward n).1 := by
  unfold Part.travel; dsimp only; (repeat' split) <;> simp [Part.SameShape]

@[simp] theorem Part.rewind_sameShape (p : Part) (discard : Nat) : p.SameShape (Part.rewind p discard).1 := by
  unfold Part.rewind; (repeat' split) <;> simp [Part.SameShape]

@[simp] theorem Part.clearRequest_sameShape (p : Part) : p.SameShape (Part.clearRequest p).1 := by
  unfold Part.clearRequest; (repeat' split) <;> simp [Part.SameShape]

@[simp] theorem Part.repairRequest_sameShape (p : Part) (k : Nat) : p.SameShape (Part.repairRequest p k).1 := by
  unfold Part.repairRequest; (repeat' split) <;> simp [Part.SameShape]

@[simp] theorem Part.startLine_sameShape (p : Part) : p.SameShape (Part.startLine p) := by
  unfold Part.startLine; split <;> simp [Part.SameShape]

@[simp] theorem Part.writeMap_sameShape (p0 : Part) (map : Option Staged) (unit : Nat) (pairs : List (Nat × Option Nat)) :
    p0.SameShape (Part.writeMap p0 map unit pairs) := by
  unfold Part.writeMap; split <;> simp [Part.SameShape]

@[simp] theorem Part.amendMap_sameShape (p : Part) (map unit : Nat) (pairs : List MapPair) :
    p.SameShape (Part.amendMap p map unit pairs).1 := by
  unfold Part.amendMap; (repeat' split) <;> simp [Part.SameShape]

@[simp] theorem Part.amendMapMode_sameShape (p : Part) (mode : Nat) : p.SameShape (Part.amendMapMode p mode).1 := by
  unfold Part.amendMapMode; (repeat' split) <;> simp [Part.SameShape]

@[simp] theorem Part.strobeRequest_sameShape (p : Part) (map : Nat) : p.SameShape (Part.strobeRequest p map).1 := by
  unfold Part.strobeRequest; (repeat' split) <;> simp [Part.SameShape]

@[simp] theorem Part.automap_sameShape (p : Part) (d map : Nat) : p.SameShape (Part.automap p d map).1 := by
  unfold Part.automap; dsimp only; (repeat' split) <;> simp [Part.SameShape]

@[simp] theorem Part.lookupMap_sameShape (p : Part) (map unit : Nat) : p.SameShape (Part.lookupMap p map unit).1 := by
  unfold Part.lookupMap; (repeat' split) <;> simp [Part.SameShape]

@[simp] theorem Part.takeSelect_sameShape (p : Part) (h n : Nat) : p.SameShape (Part.takeSelect p h n).1 := by
  unfold Part.takeSelect; split <;> simp [Part.SameShape]

@[simp] theorem Part.selectRequest_sameShape (p : Part) (h n : Nat) : p.SameShape (Part.selectRequest p h n).1 := by
  unfold Part.selectRequest; (repeat' split) <;> simp [Part.SameShape]

@[simp] theorem Part.cancelChange_sameShape (p : Part) (h : Nat) : p.SameShape (Part.cancelChange p h).1 := by
  unfold Part.cancelChange; (repeat' split) <;> simp [Part.SameShape]

@[simp] theorem Part.deadlinePassed_sameShape (p : Part) (h : Nat) : p.SameShape (Part.deadlinePassed p h) := by
  unfold Part.deadlinePassed; split <;> simp [Part.SameShape]

@[simp] theorem Part.amendThread_sameShape (p : Part) (h n : Nat) (colour : Given Nat) (band : Given (Nat × Nat)) (state : Given Nat) :
    p.SameShape (Part.amendThread p h n colour band state).1 := by
  unfold Part.amendThread; (repeat' split) <;> simp [Part.SameShape]

@[simp] theorem Part.retireThread_sameShape (p : Part) (h n : Nat) : p.SameShape (Part.retireThread p h n).1 := by
  unfold Part.retireThread; (repeat' split) <;> simp [Part.SameShape]

@[simp] theorem Part.tensionDeclared_sameShape (p : Part) (h o : Nat) : p.SameShape (Part.tensionDeclared p h o) := by
  unfold Part.tensionDeclared; split <;> simp [Part.SameShape]

@[simp] theorem Part.breakDeclared_sameShape (p : Part) (h o n : Nat) : p.SameShape (Part.breakDeclared p h o n) := by
  unfold Part.breakDeclared; split <;> simp [Part.SameShape]

@[simp] theorem Part.bobbinDeclared_sameShape (p : Part) (h o : Nat) : p.SameShape (Part.bobbinDeclared p h o) := by
  unfold Part.bobbinDeclared; split <;> simp [Part.SameShape]

@[simp] theorem Part.amendEnable_sameShape (p : Part) (h : Nat) (g : HeadGiven) :
    p.SameShape (Part.amendEnable p h g) := by
  unfold Part.amendEnable; (repeat' split) <;> simp [Part.SameShape]

@[simp] theorem Part.amendHead_sameShape (p : Part) (h : Nat) (f : HeadFields) :
    p.SameShape (Part.amendHead p h f).1 := by
  unfold Part.amendHead; (repeat' split) <;> simp [Part.SameShape]

@[simp] theorem Part.clearFaults_sameShape (p : Part) (h kinds : Nat) :
    p.SameShape (Part.clearFaults p h kinds).1 := by
  unfold Part.clearFaults; (repeat' split) <;> simp [Part.SameShape]

@[simp] theorem Part.unjam_sameShape (p : Part) (h : Nat) : p.SameShape (Part.unjam p h) := by
  unfold Part.unjam; (repeat' split) <;> simp [Part.SameShape]

@[simp] theorem Part.clearJam_sameShape (p : Part) (h : Nat) : p.SameShape (Part.clearJam p h).1 := by
  unfold Part.clearJam; split <;> simp [Part.SameShape]

@[simp] theorem Part.parkRequest_sameShape (p : Part) (h : Nat) : p.SameShape (Part.parkRequest p h).1 := by
  unfold Part.parkRequest; (repeat' split) <;> simp [Part.SameShape]

@[simp] theorem Part.restoreRequest_sameShape (p : Part) (h : Nat) : p.SameShape (Part.restoreRequest p h).1 := by
  unfold Part.restoreRequest; (repeat' split) <;> simp [Part.SameShape]

@[simp] theorem Part.retireCaseRequest_sameShape (p : Part) (k : Nat) :
    p.SameShape (Part.retireCaseRequest p k).1 := by
  unfold Part.retireCaseRequest; (repeat' split) <;> simp [Part.SameShape]

@[simp] theorem Part.lookupCase_sameShape (p : Part) (k : Nat) : p.SameShape (Part.lookupCase p k).1 := by
  unfold Part.lookupCase; (repeat' split) <;> simp [Part.SameShape]

@[simp] theorem Part.lostEvent_sameShape (p : Part) (h : Nat) : p.SameShape (Part.lostEvent p h) := by
  unfold Part.lostEvent; split <;> simp [Part.SameShape]

@[simp] theorem Part.refitHead_sameShape (old new : Nat) (p : Part) (h : Nat) :
    p.SameShape (Part.refitHead old new p h) := by
  unfold Part.refitHead; dsimp only; (repeat' split) <;> simp [Part.SameShape]

@[simp] theorem Part.needleUpReport_sameShape (p : Part) : p.SameShape (Part.needleUpReport p) := by
  unfold Part.needleUpReport; (repeat' split) <;> simp [Part.SameShape]

@[simp] theorem Part.countForward_sameTables (p : Part) (index : Bool) : p.SameTables (p.countForward index) := by
  unfold Part.countForward; dsimp only; split <;> simp [Part.SameTables]

@[simp] theorem Part.countForward_schedule (p : Part) (index : Bool) :
    (p.countForward index).mon.schedule = p.mon.schedule := by
  unfold Part.countForward; dsimp only; split <;> simp

/-- A forward count leaves the angle Shaft.countUp gives. -/
@[simp] theorem Part.countForward_angle (p : Part) (index : Bool) :
    (p.countForward index).shaft.angle = (p.shaft.countUp index).angle := by
  unfold Part.countForward; dsimp only; split <;> simp

@[simp] theorem Part.countReverse_sameTables (p : Part) (index : Bool) : p.SameTables (p.countReverse index) := by
  unfold Part.countReverse; dsimp only; split <;> simp [Part.SameTables]

@[simp] theorem Part.countReverse_schedule (p : Part) (index : Bool) :
    (p.countReverse index).mon.schedule = p.mon.schedule := by
  unfold Part.countReverse; dsimp only; split <;> simp

/-- A reverse count leaves the angle Shaft.countDown gives. -/
@[simp] theorem Part.countReverse_angle (p : Part) (index : Bool) :
    (p.countReverse index).shaft.angle = (p.shaft.countDown index).angle := by
  unfold Part.countReverse; dsimp only; split <;> simp

@[simp] theorem Part.encoderChange_sameTables (p : Part) (c : PairChange) (index : Bool) :
    p.SameTables (p.encoderChange c index) := by
  unfold Part.encoderChange; split <;> simp [Part.SameTables]

@[simp] theorem Part.encoderChange_schedule (p : Part) (c : PairChange) (index : Bool) :
    (p.encoderChange c index).mon.schedule = p.mon.schedule := by
  unfold Part.encoderChange; split <;> simp

@[simp] theorem Part.setSchedule_sameTables (p : Part) (l : List SampleEntry) : p.SameTables (p.setSchedule l) :=
  ⟨rfl, rfl, rfl, rfl, rfl, rfl, rfl, rfl, rfl⟩

@[simp] theorem Part.addSample_sameTables (p : Part) (angle heads cadence use : Nat) :
    p.SameTables (p.addSample angle heads cadence use).1 := by
  unfold Part.addSample; (repeat' split) <;> simp [Part.SameTables]

@[simp] theorem Part.retireSample_sameTables (p : Part) (i : Nat) : p.SameTables (p.retireSample i).1 := by
  unfold Part.retireSample; split <;> simp [Part.SameTables]

end Sys2Proof.Machine
end

