-- ==== Sys2Proof/Tests/Slice0.lean ====
section
/-! SUPPORT. Tests of the model: what well-formedness refuses, frames written out bit by bit, the worked figures of the spec, and for
every statement with hypotheses a state and operands that meet them (`witness_<statement>`). -/

namespace Sys2Proof.Tests

open Sys2Proof.Machine

-- the tests one after another: each on a thread of its own would ask for more stack than the checks allow
set_option Elab.async false

/-! ## Helpers -/

/-- The reset state with its part changed. -/
def at_ (f : Part → Part) : State := { part := f Part.reset, pending := [] }

/-- The part a command leaves, the part as it was when the command does not answer a next state. -/
def after (c : Instr) (p : Part) : Part :=
  match exec c { part := p, pending := [] } with
  | .next t => t.part
  | _ => p

/-- The status a request is answered with. -/
def status (c : Instr) (p : Part) : Option Status := (after c p).port.held.map Response.status

/-- What a seal computes, when it computes anything. -/
def derivedOf (l : Library) (x : Design) : Option Derived :=
  match sealDesign l x with
  | .ok v => some v
  | .error _ => none

/-- The error of a seal. -/
def errorOf (l : Library) (x : Design) : Option (SealError × Nat) :=
  match sealDesign l x with
  | .ok _ => none
  | .error e => some e

/-! ### The small design of section 1.8, in design 3 -/

def stitches18 : Table Stitch :=
  [(0, ⟨.normal, ⟨10, 0⟩⟩), (1, ⟨.normal, ⟨0, 10⟩⟩), (2, ⟨.normal, ⟨-10, 0⟩⟩), (3, ⟨.normal, ⟨5, -10⟩⟩), (4, ⟨.jump, ⟨100, 20⟩⟩),
    (5, ⟨.normal, ⟨0, 10⟩⟩), (6, ⟨.normal, ⟨10, 0⟩⟩), (7, ⟨.trim, ⟨0, 0⟩⟩), (8, ⟨.jump, ⟨-40, 10⟩⟩), (9, ⟨.normal, ⟨8, 0⟩⟩),
    (10, ⟨.normal, ⟨0, 8⟩⟩), (11, ⟨.normal, ⟨-8, 0⟩⟩)]

def runs18 (l : Nat) : Table Run :=
  [(0, ⟨0, 4, 2, 1, some ⟨50, 0⟩, some 1, false, false⟩), (1, ⟨4, 3, 1, 1, none, some 2, false, true⟩),
    (2, ⟨7, l, 1, 2, none, none, false, false⟩)]

/-- Design 3 as it is loaded, its last run with length `l`. -/
def loaded18 (l : Nat) : Design :=
  { Design.reset with state := .loading, pages := [0], count := 12, runs := runs18 l }

/-- A library that holds a design in place 3. -/
def library18 (x : Design) : Library :=
  { Library.reset with
    designs := Library.reset.designs.set 3 x, freePages := List.range' 1 511, freeRuns := 2045, stitches := stitches18 }

/-- Design 3 with its derived fields, in a state. -/
def design18 (st : DesignState) : Design :=
  { loaded18 5 with state := st, result := .ok, derived := derivedOf (library18 (loaded18 5)) (loaded18 5) }

/-- The placement of section 2.8. -/
def placement28 : Placement := ⟨⟨10000, 5000⟩, .r90, true, 1100, 1024⟩

/-! ### A machine that is about to sew it: every head on needle 1, threaded -/

def rested (n : Nat) : Selector := { Selector.reset with state := .atNeedle n, reported := some ⟨some n, false⟩, latched := some n }

def threaded : Thread := ⟨some 7, 100, 900, .ready⟩

/-- A part with design 3 ACTIVE at ordinal `c` of block 0, in a controller state. -/
def machine (st : CtlState) (c : Nat) : Part :=
  { Part.reset with
    lib := library18 (design18 .active)
    ctl := { Controller.reset with state := st, cause := .activated, design := some 3, c := some c, slot := some 1 }
    pos := { Positioner.reset with placement := some placement28, p := some ⟨0, 0⟩, n := ⟨10000, 5000⟩, homed := true }
    arb := { Arbiter.reset with selectors := List.replicate 20 (rested 1) }
    mon := { Monitor.reset with threads := List.replicate 20 (threaded :: List.replicate 14 Thread.reset) }
    shaft := { Shaft.reset with drive := .holding, synced := true } }

/-- A state around a part. -/
def around (p : Part) : State := { part := p, pending := [] }

/-! ## What well-formedness refuses -/

theorem test_wf_designs :
    [Instr.openDesign 256, .seal 256, .lookupDesign 256, .retireRun 256 0, .retireRun 0 65536, .lookupRun 256 0,
      .lookupRun 0 65536, .retireDesign 256 0, .retireDesign 0 256, .lookupStitches 256 0 1, .lookupStitches 0 16777216 1,
      .lookupStitches 0 0 256, .lookupOrdinal 256 0, .lookupOrdinal 0 16777216].all (fun c => !c.wellFormed) = true := by
  decide

theorem test_wf_put_stitches :
    [Instr.putStitches 256 0 1 [⟨0, 0, 0⟩], .putStitches 0 256 0 [], .putStitches 0 0 256 (List.replicate 256 ⟨0, 0, 0⟩),
      .putStitches 0 0 2 [⟨0, 0, 0⟩], .putStitches 0 0 1 [⟨4, 0, 0⟩], .putStitches 0 0 1 [⟨0, 64, 0⟩],
      .putStitches 0 0 1 [⟨0, -65, 0⟩], .putStitches 0 0 1 [⟨0, 0, 64⟩], .putStitches 0 0 1 [⟨0, 0, -65⟩],
      .putStitches 0 1 1 [⟨0, 1024, 0⟩], .putStitches 0 1 1 [⟨0, -1025, 0⟩], .putStitches 0 1 1 [⟨0, 0, 1024⟩],
      .putStitches 0 1 1 [⟨0, 0, -1025⟩], .putStitches 0 1 1 [⟨4, 0, 0⟩], .putStitches 0 1 2 [⟨0, 0, 0⟩],
      .putStitches 0 2 1 [⟨0, 0, 0⟩]].all (fun c => !c.wellFormed) = true := by
  decide +kernel

/-- A run whose fields all fit. -/
def fields (first length : Nat) : RunFields := ⟨first, length, 1, 1, ⟨0, (0, 0)⟩, ⟨0, 0⟩, 0, 0⟩

theorem test_wf_put_run :
    [Instr.putRun 256 0 (fields 0 1), .putRun 0 65536 (fields 0 1), .putRun 0 0 (fields 16777216 1),
      .putRun 0 0 (fields 0 65536), .putRun 0 0 { fields 0 1 with passes := 256 }, .putRun 0 0 { fields 0 1 with slot := 256 },
      .putRun 0 0 { fields 0 1 with endShift := ⟨256, (0, 0)⟩ }, .putRun 0 0 { fields 0 1 with endShift := ⟨0, (2147483648, 0)⟩ },
      .putRun 0 0 { fields 0 1 with endShift := ⟨0, (0, 2147483648)⟩ },
      .putRun 0 0 { fields 0 1 with endShift := ⟨1, (2147483648, 0)⟩ },
      .putRun 0 0 { fields 0 1 with endShift := ⟨1, (0, -2147483649)⟩ }, .putRun 0 0 { fields 0 1 with next := ⟨256, 0⟩ },
      .putRun 0 0 { fields 0 1 with next := ⟨0, 65536⟩ }, .putRun 0 0 { fields 0 1 with next := ⟨1, 65536⟩ },
      .putRun 0 0 { fields 0 1 with haltAfter := 256 }, .putRun 0 0 { fields 0 1 with trimAfter := 256 }].all
      (fun c => !c.wellFormed) = true := by
  decide

theorem test_wf_amend_design :
    [Instr.amendDesign 256 ⟨0, 0⟩ [], .amendDesign 0 ⟨256, 0⟩ [], .amendDesign 0 ⟨1, 65536⟩ [], .amendDesign 0 ⟨0, 65536⟩ [],
      .amendDesign 0 ⟨0, 0⟩ (List.replicate 256 ⟨1, ⟨0, 0⟩⟩), .amendDesign 0 ⟨0, 0⟩ [⟨256, ⟨0, 0⟩⟩],
      .amendDesign 0 ⟨0, 0⟩ [⟨1, ⟨256, 0⟩⟩], .amendDesign 0 ⟨0, 0⟩ [⟨1, ⟨1, 65536⟩⟩],
      .amendDesign 0 ⟨0, 0⟩ [⟨1, ⟨0, 65536⟩⟩]].all (fun c => !c.wellFormed) = true := by
  decide +kernel

theorem test_wf_frame_and_machine :
    [Instr.amendHoop 2147483648 0 0 0, .amendHoop 0 (-2147483649) 0 0, .amendHoop 0 0 2147483648 0, .amendHoop 0 0 0 2147483648,
      .jog 256 0 0, .jog 0 2147483648 0, .jog 0 0 (-2147483649), .amendMachine ⟨256, 0⟩, .amendMachine ⟨1, 65536⟩,
      .amendMachine ⟨0, 65536⟩, .activate 256 0 0 0 0 0 0 0, .activate 0 2147483648 0 0 0 0 0 0, .activate 0 0 2147483648 0 0 0 0 0,
      .activate 0 0 0 256 0 0 0 0, .activate 0 0 0 0 256 0 0 0, .activate 0 0 0 0 0 65536 0 0, .activate 0 0 0 0 0 0 65536 0,
      .activate 0 0 0 0 0 0 0 256, .deactivate 256, .rewind 256, .arm 256, .stop 65536, .back 65536, .fwd 65536, .repair 256,
      .retireCase 256, .lookupCase 256].all (fun c => !c.wellFormed) = true := by
  decide

theorem test_wf_maps_selectors_threads :
    [Instr.amendMap 256 0 [], .amendMap 0 256 [], .amendMap 0 0 (List.replicate 256 ⟨1, ⟨0, 0⟩⟩), .amendMap 0 0 [⟨256, ⟨0, 0⟩⟩],
      .amendMap 0 0 [⟨1, ⟨256, 0⟩⟩], .amendMap 0 0 [⟨1, ⟨0, 256⟩⟩], .amendMap 0 0 [⟨1, ⟨1, 256⟩⟩], .amendMapMode 256, .strobe 256,
      .automap 256 1, .automap 0 256, .lookupMap 256 1, .lookupMap 0 256, .select 256 1, .select 1 256, .cancelChange 256,
      .amendThread 256 1 ⟨0, 0⟩ ⟨0, (0, 0)⟩ ⟨0, 0⟩, .amendThread 1 256 ⟨0, 0⟩ ⟨0, (0, 0)⟩ ⟨0, 0⟩,
      .amendThread 1 1 ⟨1, 65536⟩ ⟨0, (0, 0)⟩ ⟨0, 0⟩, .amendThread 1 1 ⟨0, 0⟩ ⟨256, (0, 0)⟩ ⟨0, 0⟩,
      .amendThread 1 1 ⟨0, 0⟩ ⟨1, (65536, 0)⟩ ⟨0, 0⟩, .amendThread 1 1 ⟨0, 0⟩ ⟨1, (0, 65536)⟩ ⟨0, 0⟩,
      .amendThread 1 1 ⟨0, 0⟩ ⟨0, (0, 65536)⟩ ⟨0, 0⟩, .amendThread 1 1 ⟨0, 0⟩ ⟨0, (0, 0)⟩ ⟨0, 256⟩, .retireThread 256 1,
      .retireThread 1 256, .lookupThread 256 1, .lookupThread 1 256, .lookupThreads 256, .addSample 65536 0 1 0,
      .addSample 0 256 1 0, .addSample 0 0 256 0, .addSample 0 0 1 256, .retireSample 256, .lookupSensing 256].all
      (fun c => !c.wellFormed) = true := by
  decide +kernel

def headFields : HeadFields := ⟨⟨0, 0⟩, ⟨0, 0⟩, ⟨0, 0⟩, ⟨0, 0⟩, ⟨0, 0⟩, ⟨0, 0⟩, ⟨0, 0⟩, ⟨0, 0⟩⟩

theorem test_wf_heads :
    [Instr.amendHead 256 headFields, .amendHead 1 { headFields with enable := ⟨256, 0⟩ },
      .amendHead 1 { headFields with mask := ⟨0, 256⟩ }, .amendHead 1 { headFields with onBreak := ⟨1, 256⟩ },
      .amendHead 1 { headFields with onTension := ⟨0, 256⟩ }, .amendHead 1 { headFields with onBobbin := ⟨256, 0⟩ },
      .amendHead 1 { headFields with onLost := ⟨0, 256⟩ }, .amendHead 1 { headFields with onJam := ⟨1, 256⟩ },
      .amendHead 1 { headFields with bobbin := ⟨1, 16777216⟩ }, .amendClearFaults 256 0, .amendClearFaults 1 256,
      .amendClearJam 256, .park 256, .restoreHead 256, .lookupHead 256].all (fun c => !c.wellFormed) = true := by
  decide

/-- An amendment that gives no parameter. -/
def noParams : ParamFields :=
  ⟨⟨0, 0⟩, ⟨0, 0⟩, ⟨0, 0⟩, ⟨0, 0⟩, ⟨0, 0⟩, ⟨0, 0⟩, ⟨0, 0⟩, ⟨0, 0⟩, ⟨0, 0⟩, ⟨0, 0⟩, ⟨0, 0⟩, ⟨0, 0⟩, ⟨0, 0⟩, ⟨0, 0⟩, ⟨0, 0⟩, ⟨0, 0⟩,
    ⟨0, 0⟩, ⟨0, 0⟩, ⟨0, 0⟩, ⟨0, 0⟩, ⟨0, 0⟩, ⟨0, 0⟩, ⟨0, 0⟩, ⟨0, 0⟩, ⟨0, 0⟩, ⟨0, 0⟩, ⟨0, 0⟩, ⟨0, (0, 0)⟩⟩

/-- A value that fits no field, under the selector 1. -/
def wide : Given Nat := ⟨1, 65536⟩

theorem test_wf_parameters :
    [{ noParams with vMin := wide }, { noParams with vMax := wide }, { noParams with vJump := wide },
      { noParams with vStop := wide }, { noParams with slew := wide }, { noParams with stopSlew := wide },
      { noParams with fX := wide }, { noParams with fY := wide }, { noParams with kX := wide }, { noParams with kY := wide },
      { noParams with fTrav := wide }, { noParams with wStart := wide }, { noParams with wEnd := wide },
      { noParams with headsFitted := ⟨1, 256⟩ }, { noParams with lostCount := ⟨1, 256⟩ }, { noParams with selStep := wide },
      { noParams with selSettle := wide }, { noParams with selGrace := wide }, { noParams with tensionCount := ⟨1, 256⟩ },
      { noParams with breakRatio := ⟨1, 256⟩ }, { noParams with breakCount := ⟨1, 256⟩ },
      { noParams with motionBase := ⟨1, 256⟩ }, { noParams with motionRate := wide },
      { noParams with continueAfterChange := ⟨256, 0⟩ }, { noParams with startRepeat := ⟨0, 256⟩ },
      { noParams with stopLineCount := wide }, { noParams with autoStrobe := ⟨1, 256⟩ },
      { noParams with faultLine := ⟨1, (256, 0)⟩ }, { noParams with faultLine := ⟨0, (0, 256)⟩ }].all
      (fun f => !(Instr.amendParameters f).wellFormed) = true := by
  decide

theorem test_wf_events :
    [Instr.lost 0, .lost 21, .selectorDeadlineExpiry 0, .selectorDeadlineExpiry 21, .tensionDeclared 0 0 1,
      .tensionDeclared 21 0 1, .tensionDeclared 1 16777216 1, .tensionDeclared 1 0 0, .tensionDeclared 1 0 16,
      .breakDeclared 21 0 1, .breakDeclared 1 0 16, .bobbinDeclared 0 0, .bobbinDeclared 1 16777216, .malformedFrame 0,
      .malformedFrame 256].all (fun c => !c.wellFormed) = true := by
  decide

theorem test_wf_accepts :
    [Instr.openDesign 255, .putStitches 0 1 1 [⟨3, -1024, 1023⟩], .putStitches 0 0 1 [⟨0, -64, 63⟩], .putRun 15 511 (fields 0 1),
      .amendHead 20 headFields, .amendParameters noParams, .fetch 0, .malformedFrame 255,
      .amendMachine ⟨0, 1⟩, .amendMap 0 0 [⟨1, ⟨0, 1⟩⟩], .amendThread 1 1 ⟨2, 1⟩ ⟨0, (0, 1)⟩ ⟨0, 0⟩].all Instr.wellFormed = true := by
  decide

/-! ## Frames (R205 to R209, R211, R216) -/

/-- R208's check value, and the frame it writes out. -/
theorem test_crc_check_value :
    crc8 ([49, 50, 51, 52, 53, 54, 55, 56, 57].map (BitVec.ofNat 8)) = 0xF4#8 ∧ frameOf 0x30 [] = [0x30#8, 0x00#8, 0xF9#8] := by
  decide +kernel

/-- OPEN_DESIGN(3): code 0x10, length 1, design 3. -/
theorem test_decode_open_design : decodePayload 0x10 [0x03#8] = some (.openDesign 3) := by decide

/-- PUT_STITCHES in compact format: NORMAL, dx −1 (1111111), dy +63 (0111111): 00 1111111 0111111. -/
theorem test_decode_compact :
    decodePayload 0x11 [0x00#8, 0x00#8, 0x01#8, 0x3F#8, 0xBF#8] = some (.putStitches 0 0 1 [⟨0, -1, 63⟩]) := by decide +kernel

/-- PUT_STITCHES in wide format: JUMP, dx −1,023 (10000000001), dy +1,023 (01111111111): 01 10000000001 01111111111. -/
theorem test_decode_wide :
    decodePayload 0x11 [0x0F#8, 0x01#8, 0x01#8, 0x60#8, 0x0B#8, 0xFF#8] = some (.putStitches 15 1 1 [⟨1, -1023, 1023⟩]) := by
  decide +kernel

/-- JOG relative by (−2, +258): signed values of four bytes, high byte first. -/
theorem test_decode_jog :
    decodePayload 0x23 [0x01#8, 0xFF#8, 0xFF#8, 0xFF#8, 0xFE#8, 0x00#8, 0x00#8, 0x01#8, 0x02#8] = some (.jog 1 (-2) 258) := by
  decide +kernel

/-- AMEND MACHINE gives 1,200 SPM, SELECT head 20 needle 15, STOP of 513. -/
theorem test_decode_small_requests :
    decodePayload 0x31 [0x01#8, 0x04#8, 0xB0#8] = some (.amendMachine ⟨1, 1200⟩) ∧
      decodePayload 0x60 [0x14#8, 0x0F#8] = some (.select 20 15) ∧ decodePayload 0x36 [0x02#8, 0x01#8] = some (.stop 513) ∧
      decodePayload 0x52 [0x02#8] = some (.strobe 2) ∧ decodePayload 0x83 [0x07#8] = some (.park 7) := by
  decide

/-- A payload one byte short or long, a code outside the catalogue and a wrong CRC are not well formed (R206). -/
theorem test_decode_malformed :
    decodePayload 0x10 [] = none ∧ decodePayload 0x10 [0x03#8, 0x00#8] = none ∧ decodePayload 0x3D [] = none ∧
      decodeTransaction [0x30#8, 0x00#8, 0xF8#8] = some (.malformedFrame 0x30) ∧
      decodeTransaction [0x30#8, 0x00#8, 0xF9#8] = some .lookupMachine ∧ decodeTransaction [0x00#8, 0x55#8] = some (.fetch 2) := by
  decide +kernel

/-! ## The worked figures of the spec -/

/-- Section 1.8, first seal: run 2 reaches past the stitch count, BAD_RANGE at run 2. -/
theorem test_seal_bad_range : errorOf (library18 (loaded18 6)) (loaded18 6) = some (.badRange, 2) := by decide +kernel

/-- Section 1.8, second seal: T 17, base ordinals 0, 9 and 12, start positions, pass shifts, blocks and extent. -/
theorem test_seal_derived :
    derivedOf (library18 (loaded18 5)) (loaded18 5) =
      some
        { total := 17
          chain := [⟨0, 0, ⟨0, 0⟩, ⟨5, 0⟩, 9, 0⟩, ⟨1, 9, ⟨60, 0⟩, ⟨110, 30⟩, 3, 0⟩, ⟨2, 12, ⟨170, 30⟩, ⟨-40, 18⟩, 5, 1⟩]
          blocks := [⟨0, 1, 0, 0, 11⟩, ⟨1, 2, 2, 12, 16⟩], extent := ⟨0, 170, 0, 48⟩ } := by
  decide +kernel

/-- Section 2.8, direct computation: position(3), position(4) and the end shift's position(8). -/
theorem test_positions :
    (library18 (design18 .active)).position (design18 .active) 3 = ⟨5, 0⟩ ∧
      (library18 (design18 .active)).position (design18 .active) 4 = ⟨15, 0⟩ ∧
      (library18 (design18 .active)).position (design18 .active) 8 = ⟨60, 0⟩ := by
  decide +kernel

/-- Section 2.8: the committed positions of ordinals 0 to 4 and 8 under the placement; −62.5 steps goes to −62. -/
theorem test_placement_table :
    [(⟨10, 0⟩ : Vec), ⟨10, 10⟩, ⟨0, 10⟩, ⟨5, 0⟩, ⟨15, 0⟩, ⟨60, 0⟩].map
        (fun v => placement28.committed (placement28.ideal Params.reset v)) =
      [⟨10000, 4875⟩, ⟨9866, 4875⟩, ⟨9866, 5000⟩, ⟨10000, 4938⟩, ⟨10000, 4813⟩, ⟨10000, 4250⟩] := by
  decide +kernel

/-- Section 2.8: the extent fits the field X 0 to 60,000, Y 0 to 40,000, and not one that ends at Y 4,999. -/
theorem test_extent_fits :
    placement28.fits Params.reset ⟨0, 170, 0, 48⟩ ⟨0, 60000, 0, 40000⟩ = true ∧
      placement28.fits Params.reset ⟨0, 170, 0, 48⟩ ⟨0, 60000, 0, 4999⟩ = false := by
  decide +kernel

/-- R29: +62.5 steps goes to +63. -/
theorem test_rounds_upward : committedAxis 0 16384000 = 63 ∧ committedAxis 0 (-16384000) = -62 := by decide

/-- Section 3.4: 1,125 steps at the defaults are limited to 756 SPM. -/
theorem test_limit_speed : Params.reset.limit ⟨1125, 0⟩ .vMax = 756 ∧ Params.reset.subMoves .normal ⟨1125, 0⟩ = 1 := by decide

/-- Section 3.4: a jump of 3,175 steps splits into 1,587 and 1,588, each at 400; as a stitch it stays whole, at 267. -/
theorem test_split_jump :
    Params.reset.subMoves .jump ⟨3175, 0⟩ = 2 ∧ subSteps 3175 2 1 = 1587 ∧ subSteps 3175 2 2 = 1588 ∧
      Params.reset.limit ⟨1587, 0⟩ .vJump = 400 ∧ Params.reset.limit ⟨1587, 0⟩ .vMax = 536 ∧
      Params.reset.limit ⟨1588, 0⟩ .vMax = 535 ∧ Params.reset.subMoves .normal ⟨3175, 0⟩ = 1 ∧
      Params.reset.limit ⟨3175, 0⟩ .vMax = 267 := by
  decide +kernel

/-- A queue entry of a limit speed. -/
def entry (v : Nat) : Entry := ⟨0, 1, 1, ⟨1, 0⟩, true, false, .vMax, v, 0, false, false, false⟩

/-- Section 3.6: e1 is allowed 1,156 behind an e6 of 756, the tail 280. -/
theorem test_look_ahead :
    (lookAhead Params.reset (List.replicate 5 (entry 1200) ++ [entry 756] ++ List.replicate 10 (entry 1200))).map Entry.vAllow =
      [1156, 1076, 996, 916, 836, 756, 1000, 920, 840, 760, 680, 600, 520, 440, 360, 280] := by
  decide +kernel

/-- Section 1.8: PUT_STITCHES takes the first page for the first record. -/
theorem test_put_stitches_page :
    ((after (.putStitches 3 1 1 [⟨0, 10, 0⟩]) (after (.openDesign 3) Part.reset)).lib.design 3).pages = [0] ∧
      (after (.putStitches 3 1 1 [⟨0, 10, 0⟩]) (after (.openDesign 3) Part.reset)).lib.freePages.length = 511 := by
  decide +kernel

/-- Section 2.8: ACTIVATE(3) is taken and the leg runs from (0, 0) to (10,000, 5,000). -/
theorem test_activate :
    (let p := after (.activate 3 10000 5000 1 1 1100 1024 0)
        { Part.reset with lib := library18 (design18 .sealed), pos := { Positioner.reset with homed := true } };
      (p.ctl.state, p.ctl.c, p.pos.p, p.pos.move.map Move.target)) =
      (.traversing, some 0, some ⟨0, 0⟩, some ⟨10000, 5000⟩) := by
  decide +kernel

/-- Section 2.8, backtracking: from c = 4 at (10,000, 4,938) the first leg of BACK(2) runs to (9,866, 5,000). -/
theorem test_back :
    (let p := after (.back 2)
        { machine .ready 4 with
          pos := { (machine .ready 4).pos with p := some ⟨0, -16384000⟩, n := ⟨10000, 4938⟩ } };
      (p.pos.p, p.pos.move.map Move.target)) = (some ⟨-35200000, 0⟩, some ⟨9866, 5000⟩) := by
  decide +kernel

/-- START sews the small design: STARTING, the queue filled with the twelve ordinals of block 0 up to its colour stop. -/
theorem test_start :
    (let p := after .start (machine .ready 0);
      (p.ctl.state, p.shaft.drive, p.plan.queue.head?.map Entry.steps, p.plan.demand)) =
      (.starting, .turning, some ⟨0, -125⟩, 200) := by
  decide +kernel

/-- R66: an index passage sets the angle to 0 and the correction to the figure the count would have shown. -/
theorem test_index_passage :
    (let p := after (.encoderCount true false true 10)
        { Part.reset with shaft := { Shaft.reset with angle := 1000, standing := false } };
      (p.shaft.angle, p.shaft.synced, p.shaft.correction)) = (0, true, -23) := by
  decide +kernel

/-- A needle goes down only when the law of R76 holds: the thread record of the latched needle BROKEN holds it. -/
theorem test_needle_law :
    (let p := after .start (machine .ready 0);
      ((p.composeCommand 1).down, ((after (.breakDeclared 1 0 1) p).composeCommand 1).down)) = (true, false) := by
  decide +kernel

/-! ## Witnesses: the hypotheses of each statement, met -/

theorem witness_StepRunsFrontCommand : ({ State.reset with pending := [.home, .clear] } : State).pending = .home :: [.clear] := rfl

theorem witness_EmptyQueueStepIsTick : State.reset.pending = [] ∧ State.reset.part.lines.estop = true := ⟨rfl, rfl⟩

/-- A part held in reset. -/
def held : Part := after .resetAssert (machine .running 3)

theorem witness_ResetHoldsThePart :
    (encodeRequest (.openDesign 15) = some (0x10, [0x0F#8]) ∧ held.port.ready = false) ∧
      held.port.inReset = true ∧ Instr.estopFall ≠ .resetAssert ∧ Instr.estopFall ≠ .resetRelease := by
  decide +kernel

theorem witness_ReadyAgreesWithResetLine :
    (around held).part.readyAgrees ∧ ∃ t, step { around held with pending := [.resetRelease] } = .next t := by
  refine ⟨by unfold Part.readyAgrees; decide +kernel, _, rfl⟩

theorem witness_ResetLineEdges :
    (held.port.inReset = true ∧ held.lines.estop = true) ∧
      (({ held with lines := { held.lines with estop := false } } : Part).port.inReset = true ∧
        ({ held with lines := { held.lines with estop := false } } : Part).lines.estop = false) ∧
      Part.reset.port.inReset = false := by
  decide +kernel

/-- A part that holds a response. -/
def answeredPart : Part := after .lookupHoop Part.reset

theorem witness_FetchAndMalformedFrame :
    ((around answeredPart).awake ∧ (around answeredPart).listens ∧ 1 ≤ 1) ∧ answeredPart.port.held.isSome = true ∧
      State.reset.part.port.held = none := by
  simp only [State.awake, State.listens]; decide +kernel

/-- A run with every optional field present, at the ends of its ranges. -/
def fullRun : RunFields := ⟨16777215, 4096, 255, 24, ⟨1, (-32767, 32767)⟩, ⟨1, 511⟩, 1, 1⟩

theorem witness_PayloadRoundTrip :
    (Instr.putRun 15 511 fullRun).wellFormed = true ∧ (encodeRequest (.putRun 15 511 fullRun)).isSome = true ∧
      (Instr.lookupHoop).wellFormed = true ∧ encodeRequest .lookupHoop = some (0x21, []) := by
  decide +kernel

/-- The longest PUT_STITCHES: 96 compact records, a payload of 195 bytes. -/
theorem witness_FrameRoundTrip :
    (Instr.putStitches 15 0 96 (List.replicate 96 ⟨2, -64, 63⟩)).wellFormed = true ∧
      ((encodeRequest (.putStitches 15 0 96 (List.replicate 96 ⟨2, -64, 63⟩))).map fun p => (p.1, p.2.length)) =
        some (0x11, 195) := by
  decide +kernel

theorem witness_FrameCheck :
    crc8 ([0x30#8] ++ 0x00#8 :: [0xF9#8]) = crc8 ([0x30#8] ++ 0x00#8 :: [0xF9#8]) ∧
      decodeFrame [0x30#8, 0x00#8, 0xF9#8] = some .lookupMachine := by
  decide +kernel

theorem witness_LibraryClearedAfterReset :
    State.reset.part.lib = Library.reset ∧ (around held).part.port.inReset = true ∧
      ∃ t, exec .resetRelease (around held) = .next t :=
  ⟨rfl, by decide +kernel, _, rfl⟩

/-- A part that holds the small design in a state. -/
def holding (x : Design) : Part := { Part.reset with lib := library18 x }

theorem witness_OpenDesignOpens :
    ((around (holding (loaded18 5))).listens ∧ (holding (loaded18 5)).lib.design 15 = Design.reset ∧ 15 < 16) ∧
      ((holding (loaded18 5)).lib.design 3).state ≠ .empty ∧ 16 ≤ 16 := by
  simp only [State.listens]; decide +kernel

theorem wf_loaded : (library18 (loaded18 5)).wf := by
  refine ⟨by decide +kernel, ?_, ?_, by decide +kernel, by decide +kernel⟩
  · simp only [Design.wf]; decide +kernel
  · decide +kernel

/-- Both formats at their greatest counts and bounds; the pages are there. -/
theorem witness_PutStitchesStoresRecords :
    (around (holding (loaded18 5))).listens ∧ (holding (loaded18 5)).lib.wf ∧
      ((holding (loaded18 5)).lib.design 3).state = .loading ∧
      (List.replicate 96 (⟨0, 63, -63⟩ : RawStitch)).length = 96 ∧
      (List.replicate 96 (⟨0, 63, -63⟩ : RawStitch)).map (legalStitch 63) =
        (List.replicate 96 (⟨.normal, ⟨63, -63⟩⟩ : Stitch)).map some ∧
      (List.replicate 64 (⟨1, -1023, 1023⟩ : RawStitch)).map (legalStitch 1023) =
        (List.replicate 64 (⟨.jump, ⟨-1023, 1023⟩⟩ : Stitch)).map some ∧
      ceilDiv (((holding (loaded18 5)).lib.design 3).count + 96) 512 ≤
        ((holding (loaded18 5)).lib.design 3).pages.length + (holding (loaded18 5)).lib.freePages.length :=
  ⟨rfl, wf_loaded, by decide +kernel, by decide +kernel, by decide +kernel, by decide +kernel, by decide +kernel⟩

/-- A first write and a rewrite, all optional fields present and all absent, an empty pool, every field out of range. -/
theorem witness_PutRunWritesRun :
    let p := holding (loaded18 5)
    ((around p).listens ∧ (p.lib.design 3).state = .loading ∧ (lookupKey 2 (p.lib.design 3).runs).isSome = true ∧
        (lookupKey 511 (p.lib.design 3).runs).isSome = false ∧ 0 < p.lib.freeRuns) ∧
      ((⟨16777215, 4096, 255, 24, some ⟨-32767, 32767⟩, some 511, true, true⟩ : Run).first = fullRun.first ∧
        fullRun.endShift.pres = 1 ∧ fullRun.next.pres = 1 ∧ fullRun.next.val < 512 ∧ fullRun.haltAfter = 1 ∧
        fullRun.trimAfter = 1) ∧
      ((fields 0 1).endShift.pres = 0 ∧ (fields 0 1).next.pres = 0 ∧ (fields 0 1).haltAfter = 0) ∧
      (let q : Part := { p with lib := { p.lib with freeRuns := 0 } };
        q.lib.freeRuns = 0 ∧ (lookupKey 511 (q.lib.design 3).runs).isSome = false) ∧
      ((fields 0 0).length = 0 ∧ 4096 < (fields 0 4097).length ∧ ({ fields 0 1 with passes := 256 } : RunFields).passes > 255 ∧
        32767 < ({ fields 0 1 with endShift := ⟨1, (0, 32768)⟩ } : RunFields).endShift.val.2 ∧
        511 < ({ fields 0 1 with next := ⟨1, 512⟩ } : RunFields).next.val ∧
        1 < ({ fields 0 1 with haltAfter := 2 } : RunFields).haltAfter) ∧
      (p.lib.design 0).state ≠ .loading := by
  simp only [State.listens]; decide +kernel

theorem witness_RetireRunFreesDescriptor :
    let p := holding (loaded18 5)
    ((around p).listens ∧ (p.lib.design 3).state = .loading ∧ (lookupKey 0 (p.lib.design 3).runs).isSome = true ∧
        (lookupKey 511 (p.lib.design 3).runs).isSome = false) ∧ (p.lib.design 15).state ≠ .loading := by
  simp only [State.listens]; decide +kernel

theorem witness_AmendDesignSetsFields :
    let p := holding (loaded18 5)
    (around p).listens ∧ (p.lib.design 3).state ≠ .empty ∧ (p.lib.design 3).state = .loading ∧ 511 < 512 ∧
      (∀ c ∈ [(⟨1, ⟨1, 65535⟩⟩ : SlotColour), ⟨24, ⟨0, 0⟩⟩], 1 ≤ c.slot ∧ c.slot ≤ 24 ∧ c.colour.pres ≤ 1) := by
  simp only [State.listens]; decide +kernel

/-- A part whose sealer walks the small design. -/
def sealing (l : Nat) : Part := after (.seal 3) (holding (loaded18 l))

theorem agrees_of_no_design (p : Part) (hc : p.ctl.design = none)
    (h1 : ∀ d, d < 16 → (p.lib.design d).state ≠ .active)
    (h2 : ∀ d, d < 16 → ((p.lib.design d).state = .sealing ↔ p.lib.sealer = some d))
    (h3 : ∀ d, d < 16 → ((p.lib.design d).derived.isSome = true ↔ (p.lib.design d).state = .sealed)) : p.designsAgree := by
  refine ⟨fun d hd => ?_, h2, fun d h => ?_, fun d hd => ?_⟩
  · simp [hc, h1 d hd]
  · simp [hc] at h
  · simp [h3 d hd, h1 d hd]

theorem witness_SealTaken :
    (let p := holding (loaded18 5);
      (around p).listens ∧ (p.lib.design 3).state = .loading ∧ p.lib.sealer = none ∧ (p.lib.design 15).state ≠ .loading) ∧
      (let p := { holding (loaded18 5) with lib := { (holding (loaded18 5)).lib with sealer := some 0 } };
        (p.lib.design 3).state = .loading ∧ p.lib.sealer = some 0) ∧
      ((sealing 5).lib.design 3).state = .sealing ∧ (sealing 5).designsAgree := by
  refine ⟨by simp only [State.listens]; decide +kernel, by decide +kernel, by decide +kernel, ?_⟩
  exact agrees_of_no_design _ (by decide +kernel) (by decide +kernel) (by decide +kernel) (by decide +kernel)

theorem witness_SealCompletes :
    ((around (sealing 5)).awake ∧ (sealing 5).lib.sealer = some 3 ∧
        derivedOf (sealing 5).lib ((sealing 5).lib.design 3) ≠ none) ∧
      ((sealing 6).lib.sealer = some 3 ∧ errorOf (sealing 6).lib ((sealing 6).lib.design 3) = some (.badRange, 2)) ∧
      State.reset.part.lib.sealer = none := by
  simp only [State.awake]; decide +kernel

/-- A CLOSED case of head 1 in design 3, ordinals 2 to 4. -/
def case18 : Case := ⟨1, 3, 1, 2, some 4, none, .closed, none⟩

/-- A part with a case in record 39. -/
def withCase (k : Case) (p : Part) : Part := { p with cases := { p.cases with records := p.cases.records.set 39 (some k) } }

theorem witness_RetireDesignFreesPools :
    ((around (holding (loaded18 5))).listens ∧ ((holding (loaded18 5)).lib.design 3).state = .loading ∧
        (holding (loaded18 5)).casesName 3 = false) ∧
      ((sealing 5).lib.design 3).state = .sealing ∧ ((holding (design18 .sealed)).lib.design 3).state = .sealed ∧
      (withCase case18 (holding (design18 .sealed))).casesName 3 = true ∧
      ((machine .ready 0).lib.design 3).state = .active ∧ (State.reset.part.lib.design 15).state = .empty := by
  simp only [State.listens]; decide +kernel

theorem witness_LibraryLookups :
    let p := holding (design18 .sealed)
    (around p).listens ∧ lookupKey 2 (p.lib.design 3).runs = some ⟨7, 5, 1, 2, none, none, false, false⟩ ∧
      8 + 4 ≤ (p.lib.design 3).count ∧ (p.lib.design 3).state = .sealed ∧
      (p.lib.serve (p.lib.design 3) 16).isSome = true := by
  simp only [State.listens]; decide +kernel

theorem seal_loaded18 :
    ∃ v, sealDesign (library18 (loaded18 5)) (loaded18 5) = .ok v ∧ v.total = 17 ∧
      (∃ sv, (library18 (loaded18 5)).serve { loaded18 5 with derived := some v } 16 = some sv) := by
  have h : derivedOf (library18 (loaded18 5)) (loaded18 5) ≠ none := by decide +kernel
  unfold derivedOf at h
  split at h
  · rename_i v hv
    refine ⟨v, hv, ?_, ?_⟩
    · have e : derivedOf (library18 (loaded18 5)) (loaded18 5) = some v := by unfold derivedOf; rw [hv]
      have := (congrArg (Option.map Derived.total) e).symm
      have k : (derivedOf (library18 (loaded18 5)) (loaded18 5)).map Derived.total = some 17 := by decide +kernel
      rw [k] at this; simpa using this
    · have e : derivedOf (library18 (loaded18 5)) (loaded18 5) = some v := by unfold derivedOf; rw [hv]
      have k : ((library18 (loaded18 5)).serve
          { loaded18 5 with derived := derivedOf (library18 (loaded18 5)) (loaded18 5) } 16).isSome = true := by
        decide +kernel
      rw [e] at k
      exact Option.isSome_iff_exists.mp k
  · exact absurd rfl h

theorem witness_SealedDesignServesEveryOrdinal :
    (∀ e ∈ (loaded18 5).runs, 1 ≤ e.2.length ∧ 1 ≤ e.2.passes) ∧
      ∃ v, sealDesign (library18 (loaded18 5)) (loaded18 5) = .ok v ∧ 16 < v.total ∧ 0 < v.total := by
  obtain ⟨v, hv, ht, -⟩ := seal_loaded18
  exact ⟨by decide, v, hv, by omega, by omega⟩

theorem witness_PositionsFollowDisplacements :
    (∀ e ∈ (loaded18 5).runs, 1 ≤ e.2.length ∧ 1 ≤ e.2.passes) ∧
      ∃ v sv, sealDesign (library18 (loaded18 5)) (loaded18 5) = .ok v ∧ 16 < v.total ∧
        (library18 (loaded18 5)).serve { loaded18 5 with derived := some v } 16 = some sv := by
  obtain ⟨v, hv, ht, sv, hs⟩ := seal_loaded18
  exact ⟨by decide, v, sv, hv, by omega, hs⟩

theorem witness_LibraryPoolsConserved :
    (holding (loaded18 5)).lib.wf ∧ ∃ t, step { part := holding (loaded18 5), pending := [.retireDesign 3 0] } = .next t :=
  ⟨wf_loaded, _, rfl⟩

theorem witness_DesignStatesAgree :
    (sealing 5).designsAgree ∧ ∃ t, step { part := sealing 5, pending := [.sealComplete] } = .next t :=
  ⟨witness_SealTaken.2.2.2, _, rfl⟩

theorem witness_ParametersStayInRange :
    ({ Params.reset with vMin := 100, vMax := 1500, slew := 94 } : Params).inRange ∧
      ∃ t, step { State.reset with pending := [.amendParameters noParams] } = .next t := by
  refine ⟨by simp only [Params.inRange]; decide, _, rfl⟩

theorem witness_HoopFieldAmended :
    ((around (machine .ready 0)).listens ∧ (machine .ready 0).ctl.state ≠ .traversing ∧
        (machine .ready 0).ctl.state ≠ .locked) ∧
      placement28.fits Params.reset ⟨0, 170, 0, 48⟩ ⟨-8388607, 8388607, 0, 5000⟩ = true ∧
      placement28.fits Params.reset ⟨0, 170, 0, 48⟩ ⟨0, 0, 0, 0⟩ = false ∧
      (machine .traversing 0).ctl.state = .traversing ∧ (machine .locked 0).ctl.state = .locked := by
  simp only [State.listens]; decide +kernel

theorem witness_FittingExtentKeepsEveryPositionInside :
    placement28.fits Params.reset ⟨0, 170, 0, 48⟩ ⟨0, 60000, 0, 40000⟩ = true ∧
      (⟨0, 170, 0, 48⟩ : Box).contains ⟨170, 0⟩ = true := by
  decide +kernel

/-- A homed frame in UNREADY. -/
def homed : Part := { Part.reset with pos := { Positioner.reset with homed := true, n := ⟨5, -5⟩ } }

theorem witness_HomeAndJogTaken :
    ((around homed).listens ∧ homed.ctl.state = .unready ∧ homed.pos.homed = true) ∧
      (⟨clampInt homed.pos.hoop.minX homed.pos.hoop.maxX 9000000, clampInt homed.pos.hoop.minY homed.pos.hoop.maxY 0⟩ : Vec) =
        ⟨8388607, 0⟩ ∧
      (⟨clampInt homed.pos.hoop.minX homed.pos.hoop.maxX (homed.pos.n.x + 0),
          clampInt homed.pos.hoop.minY homed.pos.hoop.maxY (homed.pos.n.y + 0)⟩ : Vec) = homed.pos.n ∧
      State.reset.part.pos.homed = false ∧ (machine .locked 0).ctl.state ≠ .unready ∧
      (machine .traversing 0).ctl.state = .traversing := by
  simp only [State.listens]; decide +kernel

/-- A home search with its two axes as given. -/
def searching (x y : Search) : Part :=
  { Part.reset with
    ctl := { Controller.reset with state := .traversing, travel := some ⟨.home, .frame ⟨0, 0⟩, false, none⟩ }
    pos := { Positioner.reset with
      n := ⟨40, 40⟩
      move := some ⟨.homeSearch, ⟨40, 40⟩, ⟨0, 0⟩, ⟨0, 0⟩, false, false, 8000, x, y⟩ } }

theorem witness_HomeSearchFollowsItsSensors :
    (let p := searching (.seeking 40) .found;
      (around p).awake ∧ p.travelKind = some .home ∧
        ∃ m, p.pos.move = some m ∧ m.kind = .homeSearch ∧ m.interrupted = false ∧ m.searchX = .seeking 40 ∧
          m.searchY = .found) ∧
      (∃ m, (searching .found (.seeking 40)).pos.move = some m ∧ m.searchY = .seeking 40 ∧ m.searchX = .found) ∧
      (∃ m, (searching (.seeking 40) .leaving).pos.move = some m ∧ m.searchX = .seeking 40 ∧ m.searchY ≠ .found) ∧
      (∃ m, (searching .leaving .leaving).pos.move = some m ∧ m.searchX = .leaving ∧ m.searchY = .leaving) :=
  ⟨⟨rfl, rfl, _, rfl, rfl, rfl, rfl, rfl⟩, ⟨_, rfl, rfl, rfl⟩, ⟨_, rfl, rfl, by decide⟩, _, rfl, rfl, rfl⟩

/-- A leg of a travel. -/
def travelling (k : TravelKind) (t : TravelTarget) (c : Nat) : Part :=
  { machine .traversing c with
    ctl := { (machine .traversing c).ctl with travel := some ⟨k, t, false, none⟩ }
    pos := { (machine .traversing c).pos with
      move := some ⟨.leg, ⟨0, 0⟩, ⟨10, 10⟩, ⟨10, 10⟩, false, false, 8000, .found, .found⟩ } }

/-- The machine while ordinal 0's sub-move is out, its entry issued. -/
def issuing : Part :=
  { machine .running 0 with
    plan := { Planner.reset with queue := [{ entry 1200 with issued := true }], demand := 400, vSet := 800 }
    pos := { (machine .running 0).pos with
      busy := true, move := some ⟨.sewing, ⟨10000, 5000⟩, ⟨10000, 4875⟩, ⟨10000, 4875⟩, false, false, 0, .found, .found⟩ }
    shaft := { (machine .running 0).shaft with drive := .turning, standing := false } }

theorem witness_FrameMovesComplete :
    ((around issuing).awake ∧ issuing.pos.busy = true ∧ issuing.pos.move.isSome = true ∧
        issuing.plan.queue = { entry 1200 with issued := true } :: []) ∧
      State.reset.part.pos.busy = false ∧
      (∃ m tr, (travelling .activate (.frame ⟨10, 10⟩) 0).pos.move = some m ∧ m.kind = .leg ∧ m.interrupted = false ∧
        (travelling .activate (.frame ⟨10, 10⟩) 0).ctl.state = .traversing ∧
        (travelling .activate (.frame ⟨10, 10⟩) 0).ctl.travel = some tr ∧ tr.kind = .activate) ∧
      ((travelling .back (.ordinal 3) 4).cur - 1 = 3 ∧ (travelling .back (.ordinal 0) 0).cur - 1 = 0) ∧
      (travelling .fwd (.ordinal 5) 4).cur + 1 = 5 ∧ (travelling .fwd (.ordinal 12) 4).cur + 1 < 12 ∧
      (∃ m, issuing.pos.move = some m ∧ m.kind ≠ .leg) ∧ State.reset.part.pos.move = none := by
  refine ⟨by simp only [State.awake]; decide +kernel, rfl, ⟨_, _, rfl, rfl, rfl, rfl, rfl, rfl⟩, by decide, by decide, by decide,
    ⟨_, rfl, by decide⟩, rfl⟩

/-- The capacity boundary of a NORMAL stitch: 4,253 steps stay whole, 4,254 take two sub-moves. -/
theorem witness_SubMovesShareTheWholeMove :
    Params.reset.inRange ∧ Params.reset.subMoves .normal ⟨4253, -4253⟩ = 1 ∧ Params.reset.subMoves .normal ⟨4254, 0⟩ = 2 ∧
      Params.reset.subMoves .jump ⟨0, 0⟩ = 1 ∧ (1 ≤ 2 ∧ 2 ≤ 2) ∧ Params.reset.vJump ≤ Params.reset.capSpeed .vJump := by
  refine ⟨by simp only [Params.inRange]; decide, by decide +kernel⟩

theorem witness_LookAheadBindsTheQueue :
    Params.reset.inRange ∧ (List.replicate 16 (entry 1200)).length = 16 ∧
      (∀ e ∈ List.replicate 16 (entry 1200), Params.reset.vMax ≤ e.vLim ∧ e.stopAfter = false) ∧
      (List.replicate 16 (entry 1200))[15]? = some (entry 1200) ∧
      (lookAhead Params.reset (List.replicate 16 (entry 1200)))[15]? = some { entry 1200 with vAllow := 280 } ∧
      (lookAhead Params.reset (List.replicate 16 (entry 1200)))[0]? = some { entry 1200 with vAllow := 1200 } := by
  refine ⟨by simp only [Params.inRange]; decide, by decide +kernel⟩

/-- The machine slowing down, its head entry at v_stop. -/
def slowingDown : Part :=
  { issuing with
    ctl := { issuing.ctl with state := .stopping, phase := some .slowing, pending := some .stop }
    plan := { issuing.plan with queue := [{ entry 300 with vAllow := 300 }], demand := 300 } }

theorem witness_SpeedDemandFollowsTheQueue :
    issuing.plan.queue = { entry 1200 with issued := true } :: [] ∧ issuing.slowing = false ∧
      issuing.plan.demand ≤ issuing.plan.vSet ∧ slowingDown.slowing = true ∧
      slowingDown.plan.queue = { entry 300 with vAllow := 300 } :: [] ∧
      min (min 300 800) (max slowingDown.par.vStop (300 - slowingDown.par.stopSlew)) ≤ slowingDown.par.vStop ∧
      slowingDown.isLastEntry { entry 300 with vAllow := 300 } = true := by
  decide +kernel

theorem witness_LateMoveHoldsEveryNeedle :
    issuing.complete ∧ issuing.plan.queue = { entry 1200 with issued := true } :: [] ∧
      ({ entry 1200 with issued := true } : Entry).issued = true ∧
      ({ entry 1200 with issued := true } : Entry).complete = false := by
  refine ⟨by simp only [Part.complete]; decide +kernel, rfl, rfl, rfl⟩

theorem witness_NeedleDownLaw :
    (issuing.composeCommand 1).down = true ∧ ((machine .ready 0).composeCommand 20).down = false ∧
      (({ issuing with
          ctl := { issuing.ctl with
            state := .repairing, repair := some ⟨39, 1, 5, .sewing, some 1, none, none, false⟩ } } : Part).composeCommand
        2).down = false := by
  decide +kernel

/-- The machine with a DOWN command sent to head 20, in the middle of a sewing exchange. -/
def commanded : Part :=
  { issuing.setLink 20 { HeadLink.reset with sent := some ⟨some 0, true, false, []⟩ } with
    chain := { (issuing.setLink 20 { HeadLink.reset with sent := some ⟨some 0, true, false, []⟩ }).chain with
      exchange := some ⟨.sewing, 20, 20⟩ } }

theorem witness_CommitFrameRecordsWhatWasSent :
    commanded.complete ∧ (commanded.link 20).sent = some ⟨some 0, true, false, []⟩ ∧ (commanded.link 1).sent = none ∧
      commanded.chain.exchange = some ⟨.sewing, 20, 20⟩ := by
  refine ⟨by simp only [Part.complete]; decide +kernel, by decide +kernel⟩

/-- A report frame with sequence number 7 and detent 1: type, sequence, tag, flags, pulses, position, four samples, CRC. -/
def report7 : List Byte :=
  [0xB2#8, 7#8, 0#8, 0#8, 0#8, 1#8, 0#8, 0#8, 0#8, 0#8, 0#8, 0#8, 0#8, 0#8] ++
    [crc8 [0xB2#8, 7#8, 0#8, 0#8, 0#8, 1#8, 0#8, 0#8, 0#8, 0#8, 0#8, 0#8, 0#8, 0#8]]

/-- An idle exchange in head 19's slot. -/
def polling : Part :=
  { machine .ready 0 with chain := { Chain.reset with seq := 7, exchange := some ⟨.idle, 19, 20⟩ } }

theorem witness_IdleExchangeCountsReports :
    ((around (machine .ready 0)).awake ∧ (machine .ready 0).chain.exchange = none ∧
        (machine .ready 0).shaft.standing = true) ∧
      (issuing.shaft.standing = false ∧ issuing.shaft.synced = true) ∧
      (polling.complete ∧ polling.chain.exchange = some ⟨.idle, 19, 20⟩ ∧ isHead 19 = true ∧ 19 < 20 ∧
        (polling.head 19).state ≠ .disabled ∧ (polling.link 19).missing + 1 < polling.par.lostCount) ∧
      (∀ r, parseReport [] = some r → r.seq ≠ polling.chain.seq) ∧
      (∃ r, parseReport report7 = some r ∧ r.seq = polling.chain.seq ∧ r.detent = some 1 ∧ r.moving = false ∧
        r.button = false ∧ (polling.selector 19).state = .atNeedle 1 ∧ (polling.selector 19).halt = false) := by
  refine ⟨by simp only [State.awake]; decide +kernel, by decide +kernel,
    ⟨by simp only [Part.complete]; decide +kernel, by decide +kernel⟩, fun r h => by simp [parseReport] at h,
    ⟨7, none, false, false, false, 0, some 1, [none, none, none, none]⟩, by decide +kernel⟩

/-- A shaft at an angle, not standing. -/
def turning (angle : Nat) (synced spent : Bool) : Part :=
  { issuing with shaft := { issuing.shaft with angle := angle, synced := synced, spentCommit := spent } }

/-- Both channels, one in the reverse and one in the forward sense, at the ends of the angle and of the watches. -/
theorem witness_EncoderCountsTheAngle :
    (turning 0 true false).par.inRange ∧ (((around (turning 0 true false)).awake ∧ (turning 0 true false).shaft.angle < 1024 ∧
        (turning 1023 true false).shaft.angle < 1024) ∧
      (true ≠ (turning 0 true false).lines.encA ∧ true ≠ (turning 0 true false).lines.encB) ∧
      (false = (turning 0 true false).lines.encA ∧ true ≠ (turning 0 true false).lines.encB ∧
        (turning 0 true false).lines.encA = (turning 0 true false).lines.encB ∧
        (turning 0 true false).shaft.reverseRun < 32) ∧
      (true ≠ (turning 0 false false).lines.encA ∧ false = (turning 0 false false).lines.encB ∧
        (turning 0 false false).shaft.indexCount < 1100 ∧ (turning 0 false false).shaft.synced = false) ∧
      ((turning 1023 true false).shaft.lastIndex = false ∧ 512 ≤ (turning 512 true false).shaft.angle) ∧
      ((turning 199 true false).shaft.synced = true ∧ (turning 199 true false).shaft.angle = 199 ∧
        (turning 199 true false).shaft.spentCommit = false ∧ (turning 199 true false).shaft.startAngle ≠ 200) ∧
      (turning 199 true true).shaft.spentCommit = true) := by
  refine ⟨by simp only [Params.inRange]; decide, ?_⟩
  simp only [State.awake]; decide +kernel

/-- The machine positioning to needle-up, at an angle. -/
def positioning (st : CtlState) (angle : Nat) : Part :=
  { machine st 4 with
    ctl := { (machine st 4).ctl with phase := some .settling, origin := some .count }
    shaft := { Shaft.reset with angle := angle, synced := true, drive := .positioning, posSince := some 0 } }

theorem witness_StandingAndNeedleUp :
    ((around issuing).awake ∧ issuing.shaft.standing = false ∧ State.reset.part.shaft.standing = true) ∧
      ((positioning .ready 16).shaft.drive = .positioning ∧ (positioning .ready 16).shaft.standing = true ∧
        (positioning .ready 1008).shaft.synced = true ∧ 1008 ≤ (positioning .ready 1008).shaft.angle ∧
        (positioning .ready 16).shaft.angle ≤ 16 ∧ ¬1008 ≤ (positioning .ready 17).shaft.angle ∧
        ¬(positioning .ready 17).shaft.angle ≤ 16) ∧
      ((positioning .ready 16).ctl.state ≠ .stopping ∧ (positioning .ready 16).ctl.state ≠ .repairing) ∧
      ((positioning .stopping 0).ctl.state = .stopping ∧ (positioning .stopping 0).ctl.phase = some .settling ∧
        (positioning .stopping 0).shaft.runWaiting = false ∧ (positioning .stopping 0).ctl.origin = some .count ∧
        (positioning .stopping 0).ctl.pending = none) := by
  simp only [State.awake]; decide +kernel

theorem witness_LockMakesSafe :
    ((around issuing).awake ∧ issuing.complete ∧ issuing.ctl.state ≠ .locked ∧ issuing.shaft.drive ≠ .disabled) ∧
      ((positioning .stopping 500).complete ∧ (positioning .stopping 500).shaft.drive = .positioning) ∧
      ((travelling .clear (.frame ⟨10, 10⟩) 4).ctl.state = .traversing ∧
        (travelling .clear (.frame ⟨10, 10⟩) 4).travelKind = some .clear) ∧
      (machine .locked 0).ctl.state = .locked ∧ State.reset.part.shaft.drive = .disabled ∧
      State.reset.part.shaft.drive ≠ .positioning := by
  simp only [State.awake, Part.complete]; decide +kernel

theorem witness_MachineRecordAndSpeed :
    (around (machine .running 3)).listens ∧ (machine .running 3).moving = false ∧
      (travelling .jog (.frame ⟨10, 10⟩) 0).moving = true ∧
      clampNat Part.reset.par.vMin Part.reset.par.vMax 0 = 200 ∧ clampNat Part.reset.par.vMin Part.reset.par.vMax 65535 = 1200 ∧
      2 ≤ 2 := by
  simp only [State.listens]; decide +kernel

/-- Design 3 SEALED, the frame homed, no design active. -/
def sealedPart : Part := { holding (design18 .sealed) with pos := { Positioner.reset with homed := true } }

theorem derived_sealed : ∃ v, (sealedPart.lib.design 3).derived = some v ∧ v.extent = ⟨0, 170, 0, 48⟩ := by
  have h : ((sealedPart.lib.design 3).derived.map Derived.extent) = some ⟨0, 170, 0, 48⟩ := by decide +kernel
  obtain ⟨v, hv, he⟩ := Option.map_eq_some_iff.mp h
  exact ⟨v, hv, he⟩

theorem witness_ActivateBringsTheFrameToTheOrigin :
    ((around sealedPart).listens ∧ sealedPart.lib.designs.length = 16 ∧
        placement28 = ⟨⟨10000, 5000⟩, .r90, true, clampNat 512 2048 1100, clampNat 512 2048 1024⟩) ∧
      (sealedPart.ctl.state = .unready ∧ (sealedPart.lib.design 3).state = .sealed ∧ sealedPart.ctl.design = none ∧
        sealedPart.pos.homed = true ∧ placement28.fits sealedPart.par ⟨0, 170, 0, 48⟩ sealedPart.pos.hoop = true ∧
        (sealedPart.lib.design 15).state ≠ .sealed) ∧
      (∃ v, (sealedPart.lib.design 3).derived = some v ∧ v.extent = ⟨0, 170, 0, 48⟩) ∧
      ((withCase case18 (machine .ready 0)).ctl.design = some 3 ∧ (withCase case18 (machine .ready 0)).casesName 3 = true ∧
        (holding (design18 .sealed)).pos.homed = false ∧
        placement28.fits sealedPart.par ⟨0, 170, 0, 48⟩ ⟨0, 0, 0, 0⟩ = false ∧ ¬((8388608 : Int) ≤ 8388607) ∧
        (machine .traversing 0).ctl.state = .traversing ∧ (machine .locked 0).ctl.state = .locked ∧
        (machine .running 0).ctl.state ≠ .ready) :=
  ⟨by simp only [State.listens]; decide +kernel, by decide +kernel, derived_sealed, by decide +kernel⟩

theorem witness_DeactivateReturnsToUnready :
    ((around (machine .ready 4)).listens ∧ (machine .ready 4).lib.designs.length = 16 ∧ (machine .ready 4).ctl.state = .ready ∧
        (machine .ready 4).ctl.design = some 3 ∧ (machine .ready 4).casesName 3 = false) ∧
      ((withCase case18 (machine .ready 4)).ctl.state = .ready ∧ (withCase case18 (machine .ready 4)).casesName 3 = true) ∧
      (machine .traversing 4).ctl.state ≠ .ready ∧ (machine .locked 4).ctl.state ≠ .ready := by
  simp only [State.listens]; decide +kernel

/-- The machine with head 20 without a needle in its map, and armed. -/
def beginning : Part :=
  { machine .ready 0 with
    ctl := { (machine .ready 0).ctl with armed := true }
    maps := { Maps.reset with active := Maps.reset.active.set 3 (none :: List.replicate 23 none) } }

theorem beginning_heads (h : Nat) (k : ParkCause) : isHead h = true → (beginning.head h).state ≠ .parked k := by
  intro hh
  have : ∀ h, h < 21 → (beginning.head h).state = .active := by decide +kernel
  unfold isHead at hh
  rw [Bool.and_eq_true] at hh
  rw [this h (Nat.lt_succ_of_le (of_decide_eq_true hh.2))]
  simp

theorem witness_StartBeginsSewing :
    (beginning.complete ∧ beginning.ctl.state = .ready ∧ beginning.ctl.design = some 3 ∧ beginning.ctl.c = some 0 ∧
        0 < (beginning.lib.design 3).total ∧ (beginning.lib.design 3).blockOf 0 = some ⟨0, 1, 0, 0, 11⟩ ∧
        (beginning.lib.serve (beginning.lib.design 3) 0).isSome = true ∧ beginning.ctl.slot = some 1 ∧
        beginning.maps.held = none ∧ beginning.par.autoStrobe = .off ∧ beginning.lines.drvFlt = true ∧
        beginning.par.headsFitted ≤ 20 ∧ beginning.shaft.drive = .holding) ∧
      (∀ h k, isHead h = true → (beginning.head h).state ≠ .parked k) ∧
      (∀ h, 1 ≤ h → h ≤ beginning.par.headsFitted →
        (beginning.head h).state = .disabled ∨ (beginning.selector h).skip = some 0 ∨ beginning.mapEntry h 1 = none ∨
          ∃ n, beginning.mapEntry h 1 = some n ∧ (beginning.changeRequest h).state.inFlight = false ∧
            (beginning.thread h n).state = .ready ∧ (beginning.selector h).state = .atNeedle n) ∧
      ((around beginning).listens ∧ (around beginning).awake ∧ beginning.ctl.armed = true) ∧
      ((machine .ready 17).cur = ((machine .ready 17).activeDesign.map Design.total).getD 0 ∧
        (machine .ready 0).ctl.armed = false ∧ (machine .locked 0).ctl.state ≠ .ready) := by
  refine ⟨⟨by simp only [Part.complete]; decide +kernel, by decide +kernel⟩, beginning_heads, ?_,
    by simp only [State.listens, State.awake]; decide +kernel, by decide +kernel⟩
  have key : ∀ h, h < 21 → 1 ≤ h →
      beginning.mapEntry h 1 = none ∨
        (beginning.mapEntry h 1 = some 1 ∧ (beginning.changeRequest h).state.inFlight = false ∧
          (beginning.thread h 1).state = .ready ∧ (beginning.selector h).state = .atNeedle 1) := by
    decide +kernel
  intro h h1 h2
  have h3 : h < 21 := Nat.lt_succ_of_le h2
  rcases key h h3 h1 with e | e
  · exact .inr (.inr (.inl e))
  · exact .inr (.inr (.inr ⟨1, e⟩))

/-- The machine repairing in a phase. -/
def repairingIn (f : RepairPhase) : Part :=
  { machine .repairing 5 with ctl := { (machine .repairing 5).ctl with repair := some ⟨39, 1, 5, f, none, none, none, false⟩ } }

theorem witness_ArmAndStopByState :
    ((around (machine .ready 0)).awake ∧ (around (machine .ready 0)).listens ∧ (machine .ready 0).ctl.state = .ready ∧
        (machine .changing 0).ctl.state = .changing ∧ (machine .locked 0).ctl.state = .locked ∧
        (machine .unready 0).ctl.state = .unready) ∧
      ((machine .starting 0).ctl.state = .starting ∧ (machine .running 0).ctl.state = .running ∧
        (machine .running 0).par.stopLineCount = 0 ∧
        (after (.amendParameters { noParams with stopLineCount := ⟨1, 65535⟩ }) Part.reset).par.stopLineCount = 65535) ∧
      (slowingDown.ctl.state = .stopping ∧ slowingDown.ctl.phase ≠ some .settling) ∧
      ((positioning .stopping 0).ctl.state = .stopping ∧ (positioning .stopping 0).ctl.phase = some .settling) ∧
      ((repairingIn .prepare).ctl.state = .repairing ∧ ((repairingIn .prepare).ctl.repair.map Repair.phase) = some .prepare ∧
        ((repairingIn .sewing).ctl.repair.map Repair.phase) = some .sewing ∧
        ((repairingIn .outbound).ctl.repair.map Repair.phase) = some .outbound ∧
        ((repairingIn .homebound).ctl.repair.map Repair.phase) = some .homebound) ∧
      ((travelling .back (.ordinal 0) 4).ctl.travel = some ⟨.back, .ordinal 0, false, none⟩ ∧
        (travelling .rewind (.frame ⟨0, 0⟩) 4).ctl.travel = some ⟨.rewind, .frame ⟨0, 0⟩, false, none⟩ ∧
        (travelling .jog (.frame ⟨0, 0⟩) 4).ctl.travel = some ⟨.jog, .frame ⟨0, 0⟩, false, none⟩) := by
  simp only [State.listens, State.awake]; decide +kernel

/-- A JOG from (0, 0) to (10, 10) that has come to (5, 5). -/
def jogging : Part :=
  { travelling .jog (.frame ⟨10, 10⟩) 0 with pos := { (travelling .jog (.frame ⟨10, 10⟩) 0).pos with n := ⟨5, 5⟩ } }

theorem witness_StopOfAJogAndCountStop :
    (∃ m, jogging.pos.move = some m ∧ m.kind = .leg ∧ m.interrupted = false ∧ m.start.x ≤ jogging.pos.n.x ∧
        jogging.pos.n.x ≤ m.target.x) ∧
      ∃ q o, (machine .running 0).countStop 1 .count = (q, o) :=
  ⟨⟨_, rfl, rfl, rfl, by decide, by decide⟩, _, _, rfl⟩

theorem witness_BackFwdRewindTravel :
    ((around (machine .ready 4)).listens ∧ (machine .ready 4).ctl.c = some 4 ∧
        (machine .ready 4).pos.placement = some placement28 ∧ (machine .ready 4).ctl.state = .ready ∧
        (machine .ready 4).currentBlock = some ⟨0, 1, 0, 0, 11⟩) ∧
      (max (4 - 65535) 0 = 0 ∧ min (4 + 65535) (11 + 1) = 12 ∧ max (4 - 0) 0 = 4 ∧
        ((machine .ready 4).serve 3).isSome = true ∧ ((machine .ready 4).serve 4).isSome = true) ∧
      ((machine .ready 17).ctl.state = .ready ∧ 17 = ((machine .ready 17).activeDesign.map Design.total).getD 0 ∧
        (withCase case18 (machine .ready 17)).casesName 3 = true ∧ (machine .ready 17).casesName 3 = false) ∧
      ((machine .ready 4).ctl.cause ≠ .designEnd ∧ 4 ≠ ((machine .ready 4).activeDesign.map Design.total).getD 0) ∧
      (machine .locked 4).ctl.state ≠ .ready := by
  simp only [State.listens]; decide +kernel

/-- The machine locked during a leg. -/
def lockedInLeg : Part :=
  { travelling .rewind (.frame ⟨0, 0⟩) 4 with
    ctl := { (machine .locked 4).ctl with lockCause := some .drive }
    pos := { (travelling .rewind (.frame ⟨0, 0⟩) 4).pos with
      move := some ⟨.leg, ⟨0, 0⟩, ⟨10, 10⟩, ⟨10, 10⟩, true, false, 8000, .found, .found⟩ } }

theorem witness_ClearAndRestart :
    ((around (machine .ready 4)).listens ∧ (machine .ready 4).ctl.state ≠ .locked) ∧
      (({ machine .locked 4 with lines := { Lines.inactive with estop := false } } : Part).lines.estop = false) ∧
      ((machine .locked 4).ctl.state = .locked ∧ (machine .locked 4).lines.estop = true ∧
        (machine .locked 4).pos.move = none ∧ (machine .locked 4).ctl.repair = none) ∧
      (lockedInLeg.ctl.state = .locked ∧ lockedInLeg.pos.move.isSome = true ∧ lockedInLeg.ctl.repair = none) ∧
      ((machine .ready 4).lib.designs.length = 16 ∧ (machine .ready 4).lib.sealer = none ∧
        (sealing 5).lib.sealer = some 3 ∧ 3 < (sealing 5).lib.designs.length ∧
        (∀ h, h < 21 → (machine .ready 4).openCaseOf h = none)) := by
  simp only [State.listens]; decide +kernel

theorem witness_RepairTakenGoesOutbound :
    let p := withCase case18 (machine .ready 9)
    ((around p).listens ∧ p.ctl.state = .ready ∧ p.complete ∧ p.caseAt 39 = some case18 ∧ case18.state = .closed ∧
        p.ctl.design = some case18.design ∧ (p.head 1).state = .active ∧ (p.changeRequest 1).state.inFlight = false ∧
        p.pos.placement = some placement28 ∧ placement28.committed (p.idealStanding 2) ≠ p.pos.n) ∧
      (40 ≤ 40 ∧ p.caseAt 0 = none) ∧
      ((withCase { case18 with state := .isOpen } (machine .ready 9)).caseAt 39 = some { case18 with state := .isOpen } ∧
        ((p.setChangeRequest 1 { ChangeRequest.reset with state := .moving }).changeRequest 1).state.inFlight = true) ∧
      (machine .locked 9).ctl.state ≠ .ready := by
  simp only [State.listens, Part.complete]; decide +kernel

theorem witness_LookupsChangeNothing :
    let p := withCase case18 (machine .ready 0)
    ((around p).listens ∧ p.moving = false) ∧ (1 ≤ 20 ∧ 20 < 21) ∧ p.caseAt 39 = some case18 ∧ p.caseAt 0 = none ∧
      (p.maps.mode = .bank ∧ 1 ≤ 4) ∧ (4 < 5 ∧ 2 < 3) := by
  simp only [State.listens]; decide +kernel

/-- A part whose design 3 gives colour 7 to slot 1 and a colour no needle carries to slot 24. -/
def coloured : Part :=
  { machine .ready 0 with
    lib := library18 { design18 .active with slots := (some 7 :: List.replicate 22 none) ++ [some 9] } }

/-- The pairs of slots 1 and 24: needle 15, and no needle. -/
def pairs : List MapPair := [⟨1, ⟨1, 15⟩⟩, ⟨24, ⟨0, 0⟩⟩]

theorem witness_MapsAmendedAndBuilt :
    ((around coloured).listens ∧ coloured.maps.mode = .bank ∧
        (after (.amendMapMode 0) Part.reset).maps.mode = .head) ∧
      (4 ≤ 4 ∧ 1 ≤ pairs.length ∧ pairs.length ≤ 24 ∧
        (∀ e ∈ pairs, (1 ≤ e.slot ∧ e.slot ≤ 24) ∧
          (e.needle.pres = 0 ∨ (e.needle.pres = 1 ∧ 1 ≤ e.needle.val ∧ e.needle.val ≤ 15))) ∧
        (pairs.map MapPair.slot).Nodup ∧ coloured.maps.active.length = 4 ∧
        (∀ row ∈ coloured.maps.active, row.length = 24) ∧ coloured.maps.a.length = 4 ∧
        (∀ row ∈ coloured.maps.a, row.length = 24)) ∧
      ((machine .changing 0).ctl.state = .changing ∧ coloured.ctl.state ≠ .changing) ∧
      (2 < 3 ∧ 4 < 5 ∧ ¬((pairs ++ pairs).map MapPair.slot).Nodup ∧
        (∃ e ∈ [(⟨25, ⟨0, 0⟩⟩ : MapPair)], 24 < e.slot) ∧ (∃ e ∈ [(⟨1, ⟨1, 16⟩⟩ : MapPair)], 15 < e.needle.val)) ∧
      ((machine .running 0).ctl.state ≠ .unready ∧ (machine .running 0).ctl.state ≠ .ready) ∧
      ((coloured.lib.design 15).state = .empty ∧ (coloured.lib.design 3).state ≠ .empty ∧
        nth1 (coloured.lib.design 3).slots none 1 = some 7 ∧ nth1 (coloured.lib.design 3).slots none 2 = none ∧
        coloured.par.headsFitted = 20 ∧ (coloured.head 1).enable = true) := by
  simp only [State.listens]; decide +kernel

/-- Staged map A loaded, B not. -/
def staged (st : CtlState) : Part :=
  { machine st 0 with maps := { Maps.reset with a := NeedleMap.default .bank, loadedA := true } }

theorem witness_StrobesApplyOrAreHeld :
    ((around (staged .ready)).listens ∧ (around (staged .ready)).awake ∧ (staged .ready).maps.loadedA = true ∧
        (staged .ready).ctl.state ≠ .changing) ∧
      ((staged .changing).maps.loadedA = true ∧ (staged .changing).ctl.state = .changing) ∧
      ((staged .ready).maps.loadedB = false ∧ 2 < 3) := by
  simp only [State.listens, State.awake]; decide +kernel

/-- The machine with a request of head 20 in a state. -/
def requested (st : CtlState) (g : RequestOrigin) (r : RequestState) : Part :=
  (machine st 0).setChangeRequest 20 { ChangeRequest.reset with target := 15, origin := g, state := r, deadline := some 500 }

theorem witness_SelectorRequestsAndTheirEnds :
    ((machine .ready 0).complete ∧ (around (machine .ready 0)).listens ∧ (around (machine .ready 0)).awake ∧
        (machine .ready 0).ctl.state = .ready) ∧
      ((machine .ready 0).par.headsFitted = 20 ∧ ((machine .ready 0).head 20).state ≠ .disabled ∧
        ((machine .ready 0).selector 20).state = .atNeedle 1 ∧ ((machine .ready 0).selector 20).state ≠ .atNeedle 15 ∧
        ((machine .ready 0).changeRequest 20).state.inFlight = false ∧
        (∀ k, k < 21 → ((machine .ready 0).changeRequest k).state ≠ .pending) ∧ (machine .ready 0).freeSlot ≠ none) ∧
      ((((machine .ready 0).setSelector 20 { rested 1 with state := .jammed }).selector 20).state = .jammed ∧
        ((requested .ready .manual .moving).changeRequest 20).state.inFlight = true ∧ 20 < 21 ∧ 15 < 16) ∧
      ((machine .locked 0).ctl.state = .locked ∧ (machine .repairing 0).ctl.state = .repairing ∧
        (machine .running 0).ctl.state ≠ .ready) ∧
      (((requested .ready .demand .moving).changeRequest 20).state = .moving ∧
        ((requested .ready .manual .pending).changeRequest 20).state = .pending ∧
        ((requested .ready .manual .pending).changeRequest 20).origin = .manual ∧
        (requested .ready .manual .pending).complete ∧ (requested .ready .demand .moving).complete) ∧
      isHead 20 = true := by
  simp only [State.listens, State.awake, Part.complete]; decide +kernel

theorem witness_ThreadRecordsAmendedAndRetired :
    ((around (machine .ready 0)).listens ∧ (machine .ready 0).complete ∧ ((machine .ready 0).thread 20 1).state ≠ .empty ∧
        ((machine .ready 0).thread 20 15).state = .empty) ∧
      ((machine .running 0).ctl.state = .running ∧ ((machine .running 0).head 20).state = .active ∧
        ((machine .running 0).selector 20).latched = some 1) ∧
      ((⟨1, 65535⟩ : Given Nat).sel = 1 ∧ (⟨1, (0, 1023)⟩ : Given (Nat × Nat)).val.1 ≤ 1023 ∧
        (⟨1, (1023, 1023)⟩ : Given (Nat × Nat)).val.2 ≤ 1023 ∧ (⟨1, 3⟩ : Given Nat).val = 3) ∧
      (1023 < (⟨1, (0, 1024)⟩ : Given (Nat × Nat)).val.2 ∧ 2 < (⟨3, 0⟩ : Given Nat).sel ∧ 3 < (⟨1, 4⟩ : Given Nat).val ∧
        ((machine .ready 0).thread 20 15).colour = none) ∧
      ¬(1 ≤ 21 ∧ 21 ≤ 20 ∧ 1 ≤ 1 ∧ 1 ≤ 15) := by
  simp only [State.listens, Part.complete]; decide +kernel

/-- A schedule of `n` entries at angles 0, 10, 20, … -/
def scheduled (n : Nat) : Part :=
  { Part.reset with
    mon := { Monitor.reset with schedule := (List.range n).map fun i => ⟨10 * i, none, 1, .check⟩ } }

theorem witness_SampleScheduleKept :
    ((around (scheduled 32)).listens ∧ (scheduled 32).mon.schedule.Pairwise (fun a b => a.angle ≤ b.angle) ∧
        (scheduled 32).mon.schedule.length = 32 ∧ (scheduled 31).mon.schedule.length < 32 ∧
        (scheduled 31).mon.schedule.Pairwise (fun a b => a.angle ≤ b.angle)) ∧
      (1023 ≤ 1023 ∧ 8 ≤ 8 ∧ (⟨1023, some 20, 8, .settle⟩ : SampleEntry).head = some 20) ∧
      (1023 < 1024 ∧ 20 < 21 ∧ 8 < 9 ∧ 1 < 2) ∧ (1 ≤ 32 ∧ 32 ≤ (scheduled 32).mon.schedule.length) ∧
      (scheduled 32).mon.schedule.length < 33 := by
  simp only [State.listens]; decide +kernel

theorem witness_FaultsAreDeclared :
    ((around (machine .running 5)).awake ∧ (machine .running 5).complete ∧ (machine .running 5).ctl.state ≠ .repairing) ∧
      (20 ≤ (machine .running 5).par.headsFitted ∧ ((machine .running 5).head 20).state ≠ .disabled ∧
        ((machine .running 5).changeRequest 20).state ≠ .moving) ∧
      (((machine .running 5).head 20).actions.of .break_ = .stop ∧
        ((machine .running 5).head 20).actions.of .tension = .note ∧
        ((after (.amendHead 20 { headFields with onLost := ⟨1, 1⟩ }) (machine .running 5)).head 20).actions.of .lost = .park ∧
        ((after (.amendHead 20 { headFields with enable := ⟨1, 0⟩ }) (machine .running 5)).head 20).state = .disabled) ∧
      (machine .ready 5).sews = false := by
  simp only [State.awake, Part.complete]; decide +kernel

/-- The machine with head 20 parked by the operator. -/
def parked (st : CtlState) : Part :=
  (machine st 5).setHead 20 { Head.reset with state := .parked .operator }

theorem witness_HeadAndCaseRequests :
    ((around (parked .ready)).listens ∧ (parked .ready).complete ∧ ((parked .ready).head 20).enable = true) ∧
      ((⟨1, 31⟩ : Given Nat).val < 32 ∧ (⟨1, 16777215⟩ : Given Nat).val ≤ 16777215 ∧ 31 < (⟨1, 32⟩ : Given Nat).val ∧
        1 < (⟨2, 0⟩ : Given Nat).sel ∧ 2 < (⟨1, 3⟩ : Given Nat).val) ∧
      ((⟨1, 0⟩ : Given Nat).val = (!((parked .ready).head 20).enable).toNat ∧
        (after (.amendHead 20 { headFields with enable := ⟨1, 0⟩ }) (parked .ready)).ctl.state ≠ .changing ∧
        ((after (.amendHead 20 { headFields with enable := ⟨1, 0⟩ }) (parked .ready)).head 20).enable = false ∧
        (repairingIn .sewing).ctl.state = .repairing) ∧
      ((((machine .ready 0).setSelector 20 { rested 1 with state := .jammed }).selector 20).reported = some ⟨some 1, false⟩ ∧
        (State.reset.part.selector 20).state ≠ .jammed) ∧
      ((machine .locked 0).ctl.state = .locked ∧ ((machine .ready 0).head 20).state = .active) ∧
      (((parked .ready).head 20).state = .parked .operator ∧ ((parked .ready).selector 20).latched = some 1 ∧
        ((parked .ready).thread 20 1).state = .ready ∧ ((parked .ready).selector 20).state ≠ .jammed ∧
        ((parked .ready).link 20).missing ≠ (parked .ready).par.lostCount ∧ (parked .ready).openCaseOf 20 = none) ∧
      ((withCase case18 Part.reset).caseAt 39 = some case18 ∧
        (withCase { case18 with state := .repairing } Part.reset).caseAt 39 = some { case18 with state := .repairing }) := by
  simp only [State.listens, Part.complete]; decide +kernel

theorem witness_ParametersAmended :
    ((around (machine .ready 0)).listens ∧ (machine .ready 0).ctl.state = .ready ∧ (machine .ready 0).ctl.design ≠ none) ∧
      ((machine .running 0).ctl.state ≠ .unready ∧ (machine .running 0).ctl.state ≠ .ready) ∧
      (({ noParams with vMin := ⟨1, 0⟩, vMax := ⟨1, 65535⟩, faultLine := ⟨1, (1, 20)⟩, autoStrobe := ⟨1, 3⟩ } : ParamFields).vMin.sel
          ≤ 1 ∧ 1 ≤ 20) ∧
      (1 < ({ noParams with slew := ⟨2, 0⟩ } : ParamFields).slew.sel ∧
        3 < ({ noParams with autoStrobe := ⟨1, 4⟩ } : ParamFields).autoStrobe.val ∧
        20 < ({ noParams with faultLine := ⟨1, (1, 21)⟩ } : ParamFields).faultLine.val.2) ∧
      ({ noParams with kX := ⟨1, 256⟩ } : ParamFields).kX.sel = 1 ∧
      ((machine .ready 0).chain.links.length = 20 ∧ (machine .ready 0).heads.length = 20) := by
  simp only [State.listens]; decide +kernel

/-! ## The clauses of statements with several -/

/-- Design 3 opened with every page of the pool in design 0. -/
def fullPool : Part :=
  { Part.reset with
    lib := { Library.reset with
      designs := (Library.reset.designs.set 0
        { Design.reset with state := .loading, pages := List.range 512, count := 262144 }).set 3
          { Design.reset with state := .loading }
      freePages := [] } }

theorem wf_full : fullPool.lib.wf := by
  refine ⟨by decide +kernel, ?_, ?_, by decide +kernel, by decide +kernel⟩
  · simp only [Design.wf]; decide +kernel
  · decide +kernel

/-- A second record out of its range, a first one without a page, a bad format and count, a design not in LOADING. -/
theorem witness_PutStitchesStoresRecords_stops :
    let p := holding (loaded18 5)
    ((around p).listens ∧ p.lib.wf ∧ ([⟨0, 63, -63⟩, ⟨0, 64, 0⟩] : List RawStitch).length = 2 ∧
        (([⟨0, 63, -63⟩, ⟨0, 64, 0⟩] : List RawStitch).take 1).map (legalStitch 63) =
          ([⟨.normal, ⟨63, -63⟩⟩] : List Stitch).map some ∧
        ceilDiv (12 + 2) 512 ≤ (p.lib.design 3).pages.length + p.lib.freePages.length ∧
        legalStitch 63 ⟨0, 64, 0⟩ = none ∧
        status (.putStitches 3 0 2 [⟨0, 63, -63⟩, ⟨0, 64, 0⟩]) p = some .range ∧
        ((after (.putStitches 3 0 2 [⟨0, 63, -63⟩, ⟨0, 64, 0⟩]) p).lib.design 3).count = 13) ∧
      ((around fullPool).listens ∧ fullPool.lib.wf ∧ (fullPool.lib.design 3).state = .loading ∧
        (fullPool.lib.design 3).pages.length + fullPool.lib.freePages.length < ceilDiv (0 + (0 + 1)) 512 ∧
        status (.putStitches 3 1 1 [⟨0, 0, 0⟩]) fullPool = some .full ∧
        status (.putStitches 3 1 1 [⟨3, 0, 0⟩]) fullPool = some .full) ∧
      (status (.putStitches 3 2 0 []) p = some .range ∧ status (.putStitches 3 0 97 []) p = some .range ∧
        status (.putStitches 3 1 65 []) p = some .range ∧ status (.putStitches 0 0 1 [⟨0, 0, 0⟩]) p = some .state) := by
  exact ⟨⟨rfl, wf_loaded, by decide +kernel⟩, ⟨rfl, wf_full, by decide +kernel⟩, by decide +kernel⟩

/-- A payload of two bytes with format 2 is no malformed frame: it is answered RANGE (R216). -/
theorem test_put_stitches_short_payload :
    decodePayload 0x11 [3#8, 2#8] = some (.putStitches 3 2 0 []) ∧
      status (.putStitches 3 2 0 []) (holding (loaded18 5)) = some .range := by
  decide +kernel

theorem witness_AmendDesignSetsFields_refusals :
    let p := holding (loaded18 5)
    ((p.lib.design 0).state = .empty ∧ status (.amendDesign 0 ⟨0, 0⟩ []) p = some .state) ∧
      ((holding (design18 .sealed)).lib.design 3).state ≠ .loading ∧
      status (.amendDesign 3 ⟨1, 0⟩ []) (holding (design18 .sealed)) = some .state ∧
      (511 < (⟨1, 512⟩ : Given Nat).val ∧ status (.amendDesign 3 ⟨1, 512⟩ []) p = some .range) ∧
      status (.amendDesign 3 ⟨0, 0⟩ [⟨25, ⟨0, 0⟩⟩]) p = some .range ∧
      ((after (.amendDesign 3 ⟨0, 0⟩ [⟨24, ⟨1, 5⟩⟩, ⟨24, ⟨1, 6⟩⟩]) p).lib.design 3).slots.getLast? = some (some 6) := by
  decide +kernel

theorem witness_LibraryLookups_refusals :
    let p := holding (design18 .sealed)
    ((p.lib.design 3).derived.isSome = true ∧ ((p.lib.design 3).derived.map Derived.total) = some 17 ∧
        p.lib.serve (p.lib.design 3) 17 = none ∧ status (.lookupOrdinal 3 17) p = some .range) ∧
      (lookupKey 3 (p.lib.design 3).runs = none ∧ status (.lookupRun 3 3) p = some .noRecord ∧
        status (.lookupRun 3 512) p = some .range) ∧
      (12 < 0 + 13 ∧ (p.lib.design 3).count = 12 ∧ status (.lookupStitches 3 0 13) p = some .range ∧
        status (.lookupStitches 3 0 12) p = some .done) ∧
      status (.lookupOrdinal 3 0) (holding (loaded18 5)) = some .state ∧ status (.lookupRun 16 0) p = some .range := by
  decide +kernel

theorem witness_HomeSearchFollowsItsSensors_axes :
    (let p := searching .found (.seeking 40);
      p.travelKind = some .home ∧ (after (.homeSensorEdge .y true) p).pos.homed = true ∧
        (after (.homeSensorEdge .y true) p).pos.n = ⟨40, 0⟩ ∧ (after (.homeSensorEdge .y true) p).ctl.state = .unready) ∧
      (let p := searching .leaving (.seeking 40);
        (after (.homeSensorEdge .y true) p).pos.n.y = 0 ∧
          (after (.homeSensorEdge .y true) p).ctl = p.ctl ∧ (after (.homeNotFound .x) p) = p ∧
          (after (.homeNotFound .y) p).pos.homeResult = .notFound ∧
          (after (.homeNotFound .y) p).pos.n.y = 40 - 1048576) ∧
      (let p := machine .ready 0;
        p.pos.move = none ∧ after (.homeNotFound .x) p = p ∧
          after (.homeSensorEdge .x true) p = { p with lines := { p.lines with xHome := false } }) := by
  decide +kernel

/-- A step of BACK that is not the last, and one in which a stop was asked. -/
theorem witness_FrameMovesComplete_steps :
    (let p := travelling .back (.ordinal 0) 4;
      p.cur - 1 ≠ 0 ∧ (after .traverseLegComplete p).ctl.state = .traversing ∧
        (after .traverseLegComplete p).ctl.c = some 3 ∧
        (after .traverseLegComplete p).pos.move.map Move.start = some ⟨10, 10⟩) ∧
      (let q := travelling .fwd (.ordinal 9) 4;
        let p : Part := { q with ctl := { q.ctl with travel := some ⟨.fwd, .ordinal 9, true, some .fault⟩ } }
        p.cur + 1 ≠ 9 ∧ (after .traverseLegComplete p).ctl.state = .ready ∧ (after .traverseLegComplete p).ctl.c = some 5 ∧
          (after .traverseLegComplete p).ctl.cause = .fault) := by
  decide +kernel

/-- The machine at a commit: its head entry, of ordinal `c`, issued and complete, head 20 sent DOWN or not at all. -/
def committing (st : CtlState) (c : Nat) (down : Bool) (e : Entry) : Part :=
  { (machine st c).setLink 20
      { HeadLink.reset with sent := if down then some ⟨some c, true, false, []⟩ else none } with
    plan := { Planner.reset with queue := [{ e with ordinal := c, issued := true, complete := true }], demand := 400 }
    shaft := { (machine st c).shaft with drive := .turning, standing := false } }

/-- A case of head 20 in design 3, in record 39. -/
def caseOf (first : Nat) (last floor : Option Nat) (st : CaseState) : Case :=
  ⟨20, 3, 1, first, last, floor, st, none⟩

/-- No bobbin counted, no restore mark: what the statement of the commit supposes of every head. -/
theorem committing_heads (st : CtlState) (c h : Nat) (down : Bool) (e : Entry) :
    ((committing st c down e).head h).bobbin = none ∧ (committing st c down e).markOf h = none := by
  constructor
  · show (nth1 (List.replicate 20 Head.reset) Head.reset h).bobbin = none
    unfold nth1
    split
    · rfl
    · rw [List.getD_eq_getElem?_getD, List.getElem?_replicate]; split <;> rfl
  · show nth1 (List.replicate 20 none) none h = none
    unfold nth1
    split
    · rfl
    · rw [List.getD_eq_getElem?_getD, List.getElem?_replicate]; split <;> rfl

/-- The entry is not the last of its ordinal; the last of a NORMAL ordinal, in STARTING; with stop-after; in a repair run. -/
theorem witness_CommitFrameRecordsWhatWasSent_commit :
    (let p := committing .running 0 true { entry 1200 with count := 2 };
      p.complete ∧ (p.serve 0).isSome = true ∧ p.commitAngle.ctl.c = some 0 ∧ p.commitAngle.pos.n = p.pos.n) ∧
      (let p := committing .starting 0 true (entry 1200);
        p.commitAngle.ctl.c = some 1 ∧ p.commitAngle.ctl.state = .running ∧
          p.commitAngle.pos.p = some ((⟨0, 0⟩ : Vec).add (p.idealStep ⟨10, 0⟩)) ∧
          p.commitAngle.mon.lengths.getLast? = some (0, p.threadLength ⟨10, 0⟩)) ∧
      (let p := committing .running 4 true { entry 300 with stopAfter := true };
        p.commitAngle.ctl.state = .stopping ∧ p.commitAngle.ctl.phase = some .settling ∧
          p.commitAngle.shaft.drive = .positioning ∧ p.commitAngle.plan.queue = []) ∧
      (let q := committing .repairing 4 true { entry 300 with stopAfter := true };
        let p : Part := withCase { caseOf 4 (some 5) none .repairing with progress := some 4 }
          { q with ctl := { q.ctl with repair := some ⟨39, 20, 9, .sewing, some 1, none, none, false⟩ } }
        (p.commitAngle.caseAt 39).bind Case.progress = some 5 ∧ p.commitAngle.ctl.c = some 4 ∧
          p.commitAngle.ctl.repair = some ⟨39, 20, 9, .sewing, some 1, none, none, true⟩) := by
  simp only [Part.complete]; decide +kernel

/-- One case: sewn over at its first, left open, reached from behind, closed at the block's end, trimmed and retired; and one
restored head, that sewed or did not. -/
theorem witness_CommitFrameRecordsWhatWasSent_cases :
    let p (st : CtlState) (c : Nat) (down : Bool) (k : Case) := (withCase k (committing st c down (entry 1200))).commitAngle;
    ((p .running 4 true (caseOf 4 none none .isOpen)).caseAt 39 = some (caseOf 5 none none .isOpen) ∧
        (p .running 4 false (caseOf 4 none none .isOpen)).caseAt 39 = some (caseOf 4 none none .isOpen) ∧
        (p .running 4 false (caseOf 7 none none .isOpen)).caseAt 39 = some (caseOf 4 none none .isOpen) ∧
        (p .running 11 false (caseOf 4 none (some 2) .isOpen)).caseAt 39 = some (caseOf 4 (some 11) none .closed) ∧
        (p .running 11 true (caseOf 11 none none .isOpen)).caseAt 39 = none ∧
        (p .running 4 true (caseOf 4 (some 4) none .closed)).caseAt 39 = none ∧
        (p .running 4 true (caseOf 4 (some 6) none .closed)).caseAt 39 = some (caseOf 5 (some 6) none .closed) ∧
        (p .running 4 false (caseOf 4 (some 6) none .closed)).caseAt 39 = some (caseOf 4 (some 6) none .closed) ∧
        (p .running 4 true (caseOf 4 (some 6) none .mended)).caseAt 39 = some (caseOf 4 (some 6) none .mended)) ∧
      ((withCase (caseOf 4 none none .isOpen) (committing .running 4 true (entry 1200))).complete ∧
        ((committing .running 4 true (entry 1200)).activeDesign.bind fun y => y.blockOf 4) = some ⟨0, 1, 0, 0, 11⟩) ∧
      (let r (down : Bool) : Part :=
          { committing .running 4 down (entry 1200) with
            cases := { Cases.reset with marks := set1 Cases.reset.marks 20 (some 4) } };
        (r false).markOf 20 = some 4 ∧ (∀ j, j < 20 → (r false).markOf j ≠ some 4) ∧
          (r false).commitAngle.caseAt 0 = some (caseOf 4 (some 4) none .closed) ∧ (r true).commitAngle.caseAt 0 = none) := by
  simp only [Part.complete]; decide +kernel

/-- A report frame: sequence number 7, a tag, flags, pulses, detent 1, its first sample, CRC. -/
def reportOf (tag flags pulses hi lo : Byte) : List Byte :=
  let body := [0xB2#8, 7#8, tag, flags, pulses, 1#8, hi, lo, 0#8, 0#8, 0#8, 0#8, 0#8, 0#8]
  body ++ [crc8 body]

/-- A sewing exchange in head 19's slot: the span of ordinal 4, latched DOWN with needle 1 noted, of length 16. -/
def sewingExchange (l : Latch) (void : Bool) (lowRun debounce missing : Nat) : Part :=
  let p := (machine .running 6).setLink 19 { HeadLink.reset with expected := l, missing := missing }
  { p.setSensing 19 { Sensing.reset with noted := [(4, 1)], lowRun := lowRun, debounce := debounce, firstLow := some 2 } with
    chain := { p.chain with seq := 7, exchange := some ⟨.sewing, 19, 20⟩, closingVoid := void }
    mon := { (p.setSensing 19
      { Sensing.reset with noted := [(4, 1)], lowRun := lowRun, debounce := debounce, firstLow := some 2 }).mon with
        lengths := [(4, 16)] } }

/-- The latch of ordinal 4, with the sample orders given. -/
def down4 (orders : List SampleOrder) : Latch := ⟨some 4, true, some 1, orders, false⟩

/-- What a report leaves of head 19's sensing. -/
def senses (l : Latch) (void : Bool) (lowRun debounce : Nat) (frame : List Byte) : Sensing :=
  (after (.headReport frame) (sewingExchange l void lowRun debounce 0)).sensing 19

/-- A span passed over for each reason, judged neither low nor low for the first and the third time, a sample in and out of the band. -/
theorem witness_IdleExchangeCountsReports_spans :
    let ok := reportOf 4#8 0xC0#8 255#8 0x80#8 200#8
    let low := reportOf 4#8 0xC0#8 0#8 0x80#8 5#8
    let check : List SampleOrder := [⟨100, .check⟩]
    ((sewingExchange (down4 []) false 0 0 0).complete ∧ (sewingExchange (down4 []) false 0 0 0).chain.exchange =
        some ⟨.sewing, 19, 20⟩ ∧ isHead 19 = true ∧
        (parseReport ok).map (fun r => (r.tag, r.down, r.button, r.detent)) = some (some 4, true, false, some 1) ∧
        (sewingExchange (down4 []) false 0 0 0).lengthOf 4 = 16 ∧
        (parseReport low).map Report.pulses = some 0) ∧
      ((senses { down4 [] with held := true } false 0 0 ok).lastSpan = some .held ∧
        (senses { down4 [] with down := false } false 0 0 (reportOf 4#8 0x80#8 0#8 0#8 0#8)).lastSpan = some .notSewn ∧
        (senses (down4 []) true 0 0 ok).lastSpan = some .voidSpan ∧ (senses (down4 []) true 0 0 ok).noted = [] ∧
        (((after (.headReport ok)
          ((sewingExchange (down4 []) false 0 0 0).setThread 19 1 { threaded with state := .blocked })).sensing 19).lastSpan =
            some .notReady)) ∧
      (senses (down4 []) false 1 0 ok = { Sensing.reset with lastSpan := some (.evaluated 4 1 255 16 16 false []) } ∧
        senses (down4 []) false 0 0 low =
          { Sensing.reset with lowRun := 1, firstLow := some 4, lastSpan := some (.evaluated 4 1 0 16 16 true []) }) ∧
      (let t := after (.headReport low) (sewingExchange (down4 []) false 2 0 0);
        (t.head 19).latches.break_ = true ∧ (t.head 19).lastBreak = some 2 ∧ (t.thread 19 1).state = .broken ∧
          (t.sensing 19).lowRun = 0 ∧ t.port.notices.fault = true) ∧
      ((senses (down4 check) false 0 2 ok).debounce = 0 ∧
        (senses (down4 check) false 0 2 (reportOf 4#8 0xC0#8 255#8 0x80#8 99#8)).debounce = 3 ∧
        (let t := after (.headReport (reportOf 4#8 0xC0#8 255#8 0x83#8 255#8)) (sewingExchange (down4 check) false 0 3 0);
          (t.sensing 19).debounce = 0 ∧ (t.sensing 19).tensionLive = true ∧ (t.head 19).latches.tension = true)) := by
  simp only [Part.complete]; decide +kernel

/-- A slot without a report, below, at and above lost_count; the last slot of a sewing exchange; a button pressed on an ACTIVE head, on
a fit and an unfit PARKED one, and while LOCKED. -/
theorem witness_IdleExchangeCountsReports_slots :
    let count (n : Nat) : Part := after (.replySlotEnd false) (sewingExchange (down4 []) false 0 0 n)
    ((sewingExchange (down4 []) false 0 0 2).par.lostCount = 3 ∧ ((count 1).link 19).missing = 2 ∧
        ((count 1).head 19).latches.lost = false ∧ ((count 2).link 19).missing = 3 ∧
        ((count 2).head 19).latches.lost = true ∧ (count 2).ctl.phase = some .slowing ∧ ((count 3).link 19).missing = 3 ∧
        ((count 3).head 19).latches.lost = false ∧ ((count 1).sensing 19).lastSpan = some .noReport ∧
        ((count 1).sensing 19).noted = []) ∧
      (let t := after (.replySlotEnd true) commanded;
        commanded.chain.exchange.map Exchange.slot = some 20 ∧ t.chain.exchange = none ∧
          (t.link 1).sent = some (t.composeCommand 1) ∧ (t.link 20).outcome = some .mismatched) ∧
      (let press := reportOf 0#8 0x20#8 0#8 0#8 0#8
        let pressed (p : Part) : Part :=
          after (.headReport press) { p with chain := { p.chain with seq := 7, exchange := some ⟨.idle, 19, 20⟩ } }
        let p := machine .ready 5
        let held : Head := { Head.reset with state := .parked .tension }
        ((parseReport press).map fun r => (r.seq, r.button, r.detent)) = some (7, true, some 1) ∧
          (pressed p).head 19 = { Head.reset with state := .parked .operator, button := some (.parked, 7) } ∧
          (pressed (p.setHead 19 held)).head 19 = { held with state := .active, button := some (.restored, 7) } ∧
          (pressed ((p.setHead 19 held).setThread 19 1 { threaded with state := .broken })).head 19 =
            { held with button := some (.refused, 7) } ∧
          (pressed (machine .locked 5)).head 19 = { Head.reset with button := some (.ignored, 7) } ∧
          (pressed (p.setLink 19 { HeadLink.reset with button := some true })).head 19 = Head.reset) := by
  decide +kernel

/-- The machine turning, its head entry not yet issued, all landmarks armed but those given spent. -/
def landing (angle : Nat) (spent : Bool) : Part :=
  { turning angle true false with
    plan := { Planner.reset with queue := [entry 1200], demand := 400 }
    pos := { (machine .running 0).pos with move := none }
    shaft := { (turning angle true false).shaft with spentStart := spent, spentExchange := spent, spentTrim := spent } }

/-- Window start at its angle, the exchange angle and the trim angle, delivered and already delivered. -/
theorem witness_EncoderCountsTheAngle_landmarks :
    let count (p : Part) : Part := after (.encoderCount true false false 10) p
    ((landing 719 false).shaft.synced = true ∧ (landing 719 false).shaft.startAngle = 720 ∧
        (landing 719 false).shaft.indexCount < 1100 ∧ (landing 719 false).complete) ∧
      ((count (landing 719 false)).plan.queue = [{ entry 1200 with issued := true }] ∧
        (count (landing 719 false)).pos.busy = true ∧
        (count (landing 719 false)).pos.move.map (fun m => (m.kind, m.goal, m.rate)) =
          some (.sewing, ⟨10001, 5000⟩, 400) ∧
        (count (landing 719 true)).plan = (landing 719 true).plan) ∧
      ((count (landing 399 false)).chain.exchange = some ⟨.sewing, 1, 20⟩ ∧
        (count (landing 399 true)).chain = (landing 399 true).chain) ∧
      ((count (landing 639 false)).chain.out = (landing 639 false).chain.out ++ [.hold 0 .trim false] ∧
        (count (landing 639 true)).chain.out = (landing 639 true).chain.out) := by
  simp only [Part.complete]; decide +kernel

/-- A change due: head 20's needle for the next slot is not the one it rests at, head 19 is BROKEN there, head 18 has none. -/
def owing (st : CtlState) (slot : Nat) : Part :=
  let p := machine st 4
  { ((p.setSelector 20 (rested 5)).setThread 19 1 { threaded with state := .broken }).setSelector 17 Selector.reset with
    ctl := { p.ctl with slot := some slot, armed := true, phase := some .settling, origin := some .colour }
    maps := { Maps.reset with
      mode := .head
      active := set1 (List.replicate 20 (some 1 :: List.replicate 23 none)) 18 (List.replicate 24 none) } }

/-- The stop at a colour block's end goes into the change. -/
theorem witness_StandingAndNeedleUp_colour :
    let p : Part := { owing .stopping 2 with shaft := (positioning .stopping 16).shaft }
    (p.shaft.drive = .positioning ∧ p.ctl.phase = some .settling ∧ p.ctl.origin = some .colour ∧ p.ctl.pending = none ∧
        (p.activeDesign.bind fun x => x.blockOf p.cur) = some ⟨0, 1, 0, 0, 11⟩) ∧
      (after .positioningComplete p).ctl.state = .changing ∧ (after .positioningComplete p).shaft.drive = .holding ∧
      (after .positioningComplete { positioning .repairing 16 with
        ctl := { (repairingIn .sewing).ctl with phase := none } }).shaft.drive = .holding := by
  decide +kernel

/-- START with a change due, and with work at the current slot. -/
theorem witness_StartBeginsSewing_change :
    let p := owing .ready 2
    let q := owing .ready 1
    (p.complete ∧ p.changeDue = true ∧ q.changeDue = false ∧ q.ctl.slot = some 1 ∧ (q.head 20).state = .active ∧
        (q.selector 20).skip ≠ some 0 ∧ q.mapEntry 20 1 = some 1 ∧ (q.thread 20 1).state = .ready ∧
        (q.selector 20).state = .atNeedle 5 ∧ q.maps.held = none ∧ q.par.autoStrobe = .off ∧
        q.cur ≠ (q.activeDesign.map Design.total).getD 0) ∧
      ((after .start p).ctl.state = .changing ∧ (after .start p).ctl.change = some ⟨.start, 1⟩ ∧
        status .start p = some .taken ∧ (after .startLineFall q).ctl.change = some ⟨.start, 1⟩) ∧
      (let t := after .start q;
        (t.arb.change.map fun c => (c.number, c.block, c.slot, c.isOpen, c.waiting)) = some (0, 0, 1, true, []) ∧
          (t.selector 18).latched = none ∧ (t.head 18).state = .active ∧ (t.head 19).state = .parked .break_ ∧
          (t.head 17).state = .parked .jam ∧ (t.selector 16).latched = some 1 ∧
          (t.changeRequest 20).target = 1 ∧ (t.changeRequest 20).changeNo = some 0 ∧
          (t.changeRequest 20).state = .moving ∧ (t.selector 20).latched = none) ∧
      (let r := q.setChangeRequest 15 { ChangeRequest.reset with origin := .manual, state := .moving };
        ((after .start r).arb.change.map ChangeRecord.waiting) = some [15] ∧
          ((after .start r).selector 15).latched = none) := by
  simp only [Part.complete]
  refine ⟨?_, ?_, ?_, ?_⟩ <;> decide +kernel

/-! ## A CLEAR of a repair, and its legs -/

/-- A LOCKED repair run in a phase, of the case `caseOf 4 (some 5)` of head 20, with the move given. -/
def lockedRepair (f : RepairPhase) (m : Option Move) (k : Case) : Part :=
  let p := withCase k (machine .locked 9)
  { p with
    ctl := { p.ctl with lockCause := some .drive, repair := some ⟨39, 20, 9, f, some 1, none, none, false⟩ }
    pos := { p.pos with move := m } }

/-- A leg from (0, 0) to (10, 10), interrupted or not. -/
def leg (interrupted : Bool) : Move := ⟨.leg, ⟨0, 0⟩, ⟨10, 10⟩, ⟨10, 10⟩, interrupted, false, 8000, .found, .found⟩

def repairedCase (progress : Nat) : Case := { caseOf 4 (some 5) none .repairing with progress := some progress }

/-- OUTBOUND with its leg interrupted, and a phase with no move: the CLEAR ends where the phase says. -/
theorem witness_ClearAndRestart_repair :
    let out := lockedRepair .outbound (some (leg true)) (repairedCase 4)
    let sew := lockedRepair .sewing none (repairedCase 4)
    let ret := placement28.committed (sew.idealStanding 9)
    ((around out).listens ∧ out.ctl.state = .locked ∧ out.lines.estop = true ∧ out.pos.placement = some placement28 ∧
        sew.pos.move = none) ∧
      (status .clear out = some .taken ∧ (after .clear out).ctl.travel = some ⟨.clear, .frame ⟨10, 10⟩, false, none⟩ ∧
        ((after .clear out).pos.move.map Move.target) = some ⟨10, 10⟩ ∧ (after .clear out).pos.p = out.pos.p) ∧
      (status .clear sew = some .taken ∧ (after .clear sew).ctl.travel = some ⟨.clear, .frame ret, false, none⟩ ∧
        (after .clear sew).pos.p = some (sew.idealStanding 9)) := by
  simp only [State.listens]; decide +kernel

/-- A leg of a CLEAR, with what the lock was from. -/
def clearing (p : Part) (k : Option TravelKind) : Part :=
  { p with
    ctl := { p.ctl with
      state := .traversing, travel := some ⟨.clear, .frame ⟨10, 10⟩, false, none⟩
      lockedFrom := some ⟨.traversing, none, k.map fun k => ⟨k, .frame ⟨0, 0⟩, false, none⟩⟩ }
    pos := { p.pos with move := some (leg false) } }

/-- The leg of OUTBOUND goes on to the return ordinal; SEWING's case is closed from where it got to, or mended past its last; without
a repair `c` takes the step of the locked travel. -/
theorem witness_ClearAndRestart_leg :
    let done (p : Part) : Part := after .traverseLegComplete p
    let out := clearing (lockedRepair .outbound none (repairedCase 4)) none
    let sew (n : Nat) := clearing (lockedRepair .sewing none (repairedCase n)) none
    let plain (k : Option TravelKind) := clearing (machine .locked 4) k
    ((around out).awake ∧ out.complete ∧ out.pos.placement = some placement28 ∧ (sew 4).complete) ∧
      ((done out).ctl.repair = some ⟨39, 20, 9, .homebound, some 1, none, none, false⟩ ∧
        (done out).ctl.state = .traversing ∧ (done out).pos.n = ⟨10, 10⟩ ∧
        (done out).pos.move.map Move.target = some (placement28.committed (out.idealStanding 9))) ∧
      ((done (sew 5)).caseAt 39 = some (caseOf 5 (some 5) none .closed) ∧
        (done (sew 6)).caseAt 39 = some (caseOf 4 (some 5) none .mended) ∧ (done (sew 5)).ctl.state = .ready ∧
        (done (sew 5)).ctl.cause = .cleared ∧ (done (sew 5)).ctl.repair = none ∧ (done (sew 5)).ctl.c = some 9) ∧
      ((done (plain (some .back))).ctl.c = some 3 ∧ (done (plain (some .fwd))).ctl.c = some 5 ∧
        (done (plain (some .rewind))).ctl.c = some 0 ∧ (done (plain none)).ctl.c = some 4 ∧
        (done (plain none)).ctl.lockedFrom = none ∧ (done (plain none)).port.notices.cleared = true) := by
  simp only [State.awake, Part.complete]; decide +kernel

/-! ## A repair run -/

/-- A repair run in a phase, its leg under way. -/
def runOf (f : RepairPhase) (pending : Option Pending) (cause : Option Cause) : Part :=
  let p := withCase (repairedCase 4) (machine .repairing 9)
  { p with
    ctl := { p.ctl with pending := pending, repair := some ⟨39, 20, 9, f, none, none, cause, false⟩ }
    pos := { p.pos with move := some (leg false) } }

/-- The end of OUTBOUND in each of its outcomes. -/
theorem witness_RepairTakenGoesOutbound_outbound :
    let p := runOf .outbound none none
    let done (p : Part) : Part := after .traverseLegComplete p
    let ended (p : Part) : Option Cause × Option Case :=
      (((done p).ctl.repair.filter fun r => decide (r.phase = .homebound)).bind Repair.endCause, (done p).caseAt 39)
    let shut := some (caseOf 4 (some 5) none .closed)
    ((around p).awake ∧ p.complete ∧ p.caseAt 39 = some (repairedCase 4) ∧ (p.head 20).state = .active ∧
        p.mapEntry 20 1 = some 1 ∧ (p.thread 20 1).state = .ready ∧ p.lines.drvFlt = true ∧
        (p.serve 4).isSome = true) ∧
      (ended (runOf .outbound (some .stop) none) = (some .stop, shut) ∧
        ended { p with maps := { p.maps with active := set1 p.maps.active 4 (List.replicate 24 none) } } =
          (some .stop, shut) ∧
        ended (p.setThread 20 1 { threaded with state := .broken }) = (some .fault, shut) ∧
        ended (p.setSelector 20 Selector.reset) = (some .fault, shut)) ∧
      ((done p).ctl.repair = some ⟨39, 20, 9, .sewing, some 1, none, none, false⟩ ∧ (done p).pos.n = ⟨10, 10⟩ ∧
        (done p).shaft.drive = .turning ∧ (done p).plan.queue.head?.map (fun e => (e.ordinal, e.index)) = some (4, 1) ∧
        (done p).plan.demand = 200) ∧
      (let q := p.setSelector 20 (rested 15);
        (done q).ctl.repair = some ⟨39, 20, 9, .prepare, none, none, none, false⟩ ∧
          ((done q).changeRequest 20).target = 1 ∧ ((done q).changeRequest 20).state = .moving ∧
          ((done q).selector 20).latched = none) := by
  simp only [State.awake, Part.complete]; decide +kernel

/-- HOMEBOUND done, a request failing in PREPARE, and the needle-up report that ends SEWING. -/
theorem witness_RepairTakenGoesOutbound_ends :
    let home (k : Option Pending) : Part := after .traverseLegComplete (runOf .homebound k (some .repairDone))
    ((home none).ctl.state = .ready ∧ (home none).ctl.cause = .repairDone ∧ (home none).ctl.repair = none ∧
        (home (some .fault)).ctl.cause = .fault) ∧
      (let q := (runOf .prepare none none).setChangeRequest 20
          { ChangeRequest.reset with target := 15, origin := .demand, state := .moving, deadline := some 500 }
        let t := after (.selectorDeadlineExpiry 20) { q with pos := { q.pos with move := none } };
        (t.changeRequest 20).state = .failed .jam ∧ t.caseAt 39 = some (caseOf 4 (some 5) none .closed) ∧
          t.ctl.repair = some ⟨39, 20, 9, .homebound, none, none, some .fault, false⟩) ∧
      (let sewn (k : Option Pending) (n : Nat) (b : Option Nat) : Part :=
          let q := withCase (repairedCase n) { runOf .sewing k none with shaft := (positioning .repairing 16).shaft };
          after .positioningComplete
            { q with ctl := { q.ctl with repair := some ⟨39, 20, 9, .sewing, some 1, b, none, true⟩ } };
        (sewn none 6 none).caseAt 39 = some (caseOf 4 (some 5) none .mended) ∧
          (sewn none 6 none).ctl.repair.bind Repair.endCause = some .repairDone ∧
          (sewn (some .fault) 6 (some 5)).caseAt 39 = some (caseOf 5 (some 5) none .closed) ∧
          (sewn (some .fault) 6 (some 5)).ctl.repair.bind Repair.endCause = some .fault ∧
          (sewn none 5 none).caseAt 39 = some (caseOf 5 (some 5) none .closed)) := by
  decide +kernel

/-! ## Payloads of refusals -/

/-- The payload a request is answered with. -/
def payload (c : Instr) (p : Part) : Option (List Byte) :=
  (after c p).port.held.map fun r => r.payload.flatMap Item.bytes

theorem witness_MapsAmendedAndBuilt_payloads :
    (status (.amendMap 0 5 pairs) coloured = some .range ∧ payload (.amendMap 0 5 pairs) coloured = some []) ∧
      (status (.amendMap 0 4 []) coloured = some .range ∧
        payload (.amendMap 0 4 []) coloured =
          some (((nth1 coloured.maps.active [] 4).flatMap (itemOpt 1)).flatMap Item.bytes)) ∧
      (status (.automap 15 1) coloured = some .noRecord ∧
        payload (.automap 15 1) coloured = some ((coloured.lib.design 15).items.flatMap Item.bytes)) ∧
      (status (.automap 3 1) coloured = some .done ∧
        payload (.automap 3 1) coloured = some [1#8, 1#8, 0#8, 4#8, 0#8, 4#8, 1#8, 24#8]) ∧
      (status (.automap 3 0) coloured = some .range ∧
        payload (.automap 3 0) coloured = some ((coloured.lib.design 3).items.flatMap Item.bytes)) := by
  decide +kernel

theorem witness_StrobesApplyOrAreHeld_payloads :
    (payload (.strobe 1) (staged .ready) = some [0#8] ∧ payload (.strobe 1) (staged .changing) = some [1#8]) ∧
      (status (.strobe 2) (staged .ready) = some .state ∧
        payload (.strobe 2) (staged .ready) =
          some ((after (.strobe 2) (staged .ready)).mapsItems.flatMap Item.bytes)) ∧
      payload (.strobe 3) (staged .ready) = some [] := by
  decide +kernel

/-! ## Arrivals and the end of a change -/

/-- A report that head 19's selector stands at needle 1, sequence number 7. -/
def arrival (p : Part) : Part :=
  let q := p.setSelector 19 { rested 5 with state := .moving, latched := none }
  let r := q.setChangeRequest 19
    { ChangeRequest.reset with target := 1, origin := .demand, changeNo := some 0, state := .moving, deadline := some 500 }
  { r with
    chain := { r.chain with seq := 7, exchange := some ⟨.idle, 19, 20⟩ }
    arb := { r.arb with slots := set1 r.arb.slots 1 (some 19) } }

/-- CHANGING for a change of a kind, its record open. -/
def inChange (kind : ChangeKind) (jam : Bool) : Part :=
  let p := machine .changing 4
  { p with
    ctl := { p.ctl with change := some ⟨kind, 2⟩ }
    arb := { p.arb with change := some ⟨0, 1, 2, kind, jam, [], 1, 0, 0, 0, true⟩ } }

/-- Head 20 with a PENDING DEMAND request of the change. -/
def alsoPending (p : Part) : Part :=
  p.setChangeRequest 20 { ChangeRequest.reset with target := 2, origin := .demand, changeNo := some 0, state := .pending }

/-- The arrival outside CHANGING, in a change that waits for another head, and as the last one of it with each end. -/
theorem witness_SelectorRequestsAndTheirEnds_arrival :
    let arrived (p : Part) : Part := after (.headReport report7) (arrival p)
    let rest (p : Part) : Prop :=
      (p.selector 19).state = .atNeedle 1 ∧ (p.selector 19).latched = some 1 ∧ (p.changeRequest 19).state = .done ∧
        p.arb.slots.all (· != some 19) = true
    ((around (arrival (machine .ready 4))).awake ∧ (arrival (machine .ready 4)).complete) ∧
      (rest (arrived (machine .ready 4)) ∧ (arrived (machine .ready 4)).ctl = (machine .ready 4).ctl) ∧
      (rest (arrived (alsoPending (inChange .colour false))) ∧
        (arrived (alsoPending (inChange .colour false))).ctl.state = .changing) ∧
      ((arrived (inChange .start true)).ctl.state = .ready ∧ (arrived (inChange .start true)).ctl.cause = .jam ∧
        (arrived (inChange .start true)).ctl.slot = some 2) ∧
      (let p := inChange .start false;
        (arrived { p with ctl := { p.ctl with pending := some .stop } }).ctl.cause = .stop ∧
          (arrived p).ctl.state = .starting ∧ (arrived p).shaft.drive = .turning ∧
          ((arrived p).arb.change.map ChangeRecord.isOpen) = some false) ∧
      (let p := inChange .colour false;
        p.par.continueAfterChange = false ∧ (arrived p).ctl.cause = .colour ∧
          (arrived { p with par := { p.par with continueAfterChange := true } }).ctl.state = .starting) := by
  refine ⟨by simp only [State.awake, Part.complete]; decide +kernel, by decide +kernel, by decide +kernel, by decide +kernel,
    by decide +kernel, by decide +kernel⟩

/-- CANCEL CHANGE of the PENDING request of a change that goes on. -/
theorem witness_SelectorRequestsAndTheirEnds_pending :
    let p := alsoPending (arrival (inChange .colour false))
    let q := after (.cancelChange 20) p
    ((around p).listens ∧ p.complete ∧ (p.changeRequest 20).state = .pending ∧ (p.changeRequest 19).state.inFlight = true ∧
        (p.changeRequest 19).changeNo = some 0) ∧
      status (.cancelChange 20) p = some .done ∧ (q.changeRequest 20).state = .cancelled ∧
      (q.selector 20).skip = some 1 ∧ (q.selector 20).latched = (p.selector 20).latched ∧ q.ctl = p.ctl ∧
      q.arb.change = p.arb.change := by
  simp only [State.listens, Part.complete]; decide +kernel

/-! ## Faults, heads and cases -/

/-- A command that answers a next state in which nothing changed. -/
def stays (c : Instr) (p : Part) : Bool :=
  match exec c (around p) with
  | .next t => decide (t = around p)
  | _ => false

/-- A thread that is not READY, the last missing report, the repaired head and a bobbin drawn to nothing. -/
theorem witness_FaultsAreDeclared_forms :
    let p := machine .running 5
    let miss (n : Nat) : Part := p.setLink 20 { HeadLink.reset with missing := n }
    let sewn := runOf .sewing none none
    let spool (b : Nat) : Part :=
      (p.setHead 20 { Head.reset with bobbin := some b }).setLink 20
        { HeadLink.reset with recorded := { HeadLink.reset.recorded with down := true } }
    (stays (.breakDeclared 20 4 15) p = true ∧ stays (.lost 20) (miss 3) = true ∧ stays (.lost 21) p = true ∧
        ((after (.lost 20) (miss 2)).link 20).missing = 3) ∧
      ((after (.breakDeclared 20 4 1) sewn).ctl.repair = some ⟨39, 20, 9, .sewing, none, some 4, none, false⟩ ∧
        (after (.breakDeclared 20 4 1) sewn).ctl.pending = some .fault ∧
        ((after (.breakDeclared 20 4 1) sewn).head 20).state = .active) ∧
      (((spool 16).drawBobbin 4 16 20).head 20 = { Head.reset with bobbin := some 0, latches := { Head.reset.latches with bobbin := true } } ∧
        ((spool 17).drawBobbin 4 16 20).head 20 = { Head.reset with bobbin := some 1 } ∧
        ((spool 0).drawBobbin 4 16 20).head 20 = { Head.reset with bobbin := some 0 }) := by
  decide +kernel

/-- PARK opens a case while sewing, RESTORE closes it at once or, before its first ordinal, frees it; a cleared enable aborts. -/
theorem witness_HeadAndCaseRequests_cases :
    let p := machine .running 5
    let opened := after (.park 20) p
    let restored (first : Nat) (floor : Option Nat) : Part :=
      after (.restoreHead 20) (withCase (caseOf first none floor .isOpen) (parked .running))
    (p.sews = true ∧ opened.caseAt 0 = some (caseOf 5 none none .isOpen) ∧ opened.port.notices.case = true ∧
        (opened.head 20).state = .parked .operator) ∧
      ((restored 4 none).caseAt 39 = some (caseOf 4 (some 4) none .closed) ∧
        (restored 4 (some 6)).caseAt 39 = some (caseOf 4 (some 6) none .closed) ∧ (restored 5 none).caseAt 39 = none ∧
        (restored 5 none).markOf 20 = some 5 ∧ ((restored 5 none).head 20).state = .active) ∧
      (let q := after (.amendHead 20 { headFields with enable := ⟨1, 0⟩ }) (requested .ready .manual .pending);
        (q.changeRequest 20).state = .failed .abort ∧ (q.head 20).state = .disabled ∧
          q.port.notices.selectDone = true) := by
  decide +kernel

theorem witness_ParametersAmended_stored :
    let p := (machine .ready 0).setLink 19 { HeadLink.reset with missing := 3 }
    let given (f : ParamFields) : Part := after (.amendParameters f) p
    ((given { noParams with autoStrobe := ⟨1, 3⟩ }).par.autoStrobe = .line ∧
        (given { noParams with faultLine := ⟨1, (1, 20)⟩ }).par.follow = some 20 ∧
        (given { noParams with faultLine := ⟨1, (0, 0)⟩ }).par.follow = none ∧
        (given noParams).par = p.par) ∧
      (((given { noParams with lostCount := ⟨1, 2⟩ }).link 19).missing = 2 ∧
        ((given { noParams with headsFitted := ⟨1, 18⟩ }).link 19).missing = 0 ∧
        ((given { noParams with headsFitted := ⟨1, 19⟩ }).link 19).missing = 3 ∧
        ((given { noParams with headsFitted := ⟨1, 18⟩ }).head 19).state = .disabled) := by
  decide +kernel

/-! ## The checks of a seal, and operands out of range -/

/-- Each check of R14 on the small design with one fault, and the first of two faults. -/
theorem witness_SealCompletes_checks :
    let x (r : Run) : Design := { loaded18 5 with runs := set1 (runs18 5) 3 (2, r) }
    let r : Run := ⟨7, 5, 1, 2, none, none, false, false⟩
    let error (x : Design) := errorOf (library18 x) x
    (error (x r) = none ∧ error { x r with startRun := 9 } = some (.noStart, 9)) ∧
      (error (x { r with length := 6, slot := 0 }) = some (.badRange, 2) ∧ error (x { r with slot := 25 }) = some (.badSlot, 2)) ∧
      (error (x { r with next := some 9 }) = some (.noRun, 2) ∧ error (x { r with next := some 2 }) = some (.loop, 2) ∧
        error (x { r with next := some 0 }) = some (.loop, 2)) ∧
      errorOf { library18 (loaded18 5) with stitches := stitches18.map fun e => if e.1 = 7 then (7, ⟨.trim, ⟨1, 0⟩⟩) else e }
        (loaded18 5) = some (.trimShift, 2) := by
  decide +kernel

/-- A design, a run or a flag outside its range. -/
theorem witness_ranges :
    let p := holding (loaded18 5)
    ((around p).listens ∧ (around (machine .ready 17)).listens ∧ (machine .ready 17).ctl.state = .ready) ∧
      (status (.putRun 16 0 fullRun) p = some .range ∧ payload (.putRun 16 0 fullRun) p = some [] ∧
        status (.putRun 3 512 fullRun) p = some .range) ∧
      (status (.retireRun 16 0) p = some .range ∧ status (.retireRun 3 512) p = some .range ∧
        status (.seal 16) p = some .range) ∧
      (status (.retireDesign 16 0) p = some .range ∧ status (.retireDesign 3 2) p = some .range ∧
        (p.lib.design 3).state = .loading) ∧
      status (.rewind 2) { machine .ready 17 with ctl := { (machine .ready 17).ctl with cause := .designEnd } } =
        some .range := by
  simp only [State.listens]; decide +kernel

/-! ## The fill and the count stop -/

/-- The small design in STARTING with nothing queued, the fill at an ordinal. -/
def filling (o : Nat) (stop : PlannedStop) : Part :=
  { machine .starting 0 with plan := { Planner.reset with fill := some ⟨o, 1, none⟩, stop := stop, demand := 400, vSet := 800 } }

/-- A NORMAL ordinal, a NORMAL one with a trim entry to follow and the entry itself, a TRIM ordinal; a requested stop placed; and
no entry behind a stop or past the design. -/
theorem witness_LookAheadBindsTheQueue_fill :
    let tail (p : Part) : Option (Bool × Bool × Cap × Bool) :=
      p.fillOne.plan.queue.getLast?.map fun e => (e.down, e.trim, e.cap, e.stopAfter)
    ((filling 0 .none).ctl.state = .starting ∧ ((filling 0 .none).serve 0).isSome = true ∧
        tail (filling 0 .none) = some (true, false, .vMax, false) ∧
        (filling 0 .none).fillOne.plan.fill = some ⟨1, 1, none⟩) ∧
      (tail (filling 11 .none) = some (true, false, .vMax, false) ∧
        ((filling 11 .none).fillOne.plan.fill.map FillPoint.index) = some 2 ∧
        tail (filling 11 .none).fillOne = some (false, true, .vStop, true) ∧
        (filling 11 .none).fillOne.fillOne.plan.stop = .placed 11 true .colour ∧
        (filling 11 .none).fillOne.fillOne.fillOne = (filling 11 .none).fillOne.fillOne) ∧
      (tail (filling 3 (.pending 3 false .count)) = some (true, false, .vStop, true) ∧
        (filling 3 (.pending 3 false .count)).fillOne.plan.stop = .placed 3 false .count) ∧
      (filling 17 .none).fillOne = filling 17 .none := by
  decide +kernel

/-- The part and the point from which the fill reads each ordinal from a point on, and the queue position it would reach. -/
def servings (p : Part) (f : FillPoint) : Nat → Part × FillPoint × Nat
  | 0 => (p, f, p.plan.queue.length)
  | j + 1 =>
    let (q, g, n) := servings p f j
    match q.serve g.ordinal with
    | some sv =>
      ((q.takeSplit g sv).1, ⟨g.ordinal + 1, 1, none⟩,
        n + ((q.takeSplit g sv).2.2 + (if q.hasTrim sv then 1 else 0) + 1 - g.index))
    | none => (q, g, n)

/-- What the statement of the count stop asks of its three sequences is met by those of the model. -/
theorem servings_meet (p : Part) (f : FillPoint) (j : Nat) (sv : Served)
    (h : (servings p f j).1.serve (servings p f j).2.1.ordinal = some sv) :
    (servings p f (j + 1)).1 = ((servings p f j).1.takeSplit (servings p f j).2.1 sv).1 ∧
      (servings p f (j + 1)).2.1 = ⟨(servings p f j).2.1.ordinal + 1, 1, none⟩ ∧
      (servings p f (j + 1)).2.2 =
        (servings p f j).2.2 +
          (((servings p f j).1.takeSplit (servings p f j).2.1 sv).2.2 +
            (if (servings p f j).1.hasTrim sv then 1 else 0) + 1 - (servings p f j).2.1.index) := by
  simp [servings, h]

/-- A count stop in the queue, beyond its tail, raised by the speed, and dropped for a stop planned before it and for the design's
end. -/
theorem witness_StopOfAJogAndCountStop_count :
    let p (v : Nat) : Part :=
      { filling 2 .none with
        plan := { (filling 2 .none).plan with
          queue := [{ entry 600 with ordinal := 0 }, { entry 600 with ordinal := 1 }], demand := v } }
    (ceilDiv (400 - (p 400).par.vStop) (p 400).par.slew = 2 ∧ ceilDiv (300 - (p 300).par.vStop) (p 300).par.slew = 0) ∧
      ((p 300).countStop 1 .count).2 = 1 ∧ ((p 300).countStop 1 .count).1.plan.stop = .placed 1 false .count ∧
      ((p 300).countStop 1 .count).1.plan.fill = some ⟨2, 1, none⟩ ∧
      (((p 300).countStop 1 .count).1.plan.queue.map Entry.stopAfter) = [false, true] ∧
      ((p 300).countStop 1 .count).1.pos.plan = some ((p 300).idealStanding 2) ∧
      ((p 400).countStop 0 .count) =
        ({ p 400 with plan := { (p 400).plan with stop := .pending 2 false .count } }, 2) ∧
      ((p 400).countStop 9 .count).2 = 9 ∧ ((p 400).countStop 17 .count) = (p 400, 16) ∧
      (let q : Part := { p 400 with plan := { (p 400).plan with stop := .pending 5 false .count } };
        q.countStop 9 .count = (q, 5) ∧ (q.countStop 3 .count).2 = 3) ∧
      (servings (p 400) ⟨2, 1, none⟩ 0).2.2 = 2 ∧ 2 + 1 ≤ (servings (p 400) ⟨2, 1, none⟩ 1).2.2 := by
  decide +kernel

/-! ## The commit angle with nothing to commit, a bobbin, speeds and payloads kept -/

/-- Nothing queued, the head entry not issued; a bobbin drawn down by a commit of a head latched DOWN, to nothing or not. -/
theorem witness_CommitFrameRecordsWhatWasSent_forms :
    let bare := machine .running 0
    let idle : Part := { bare with plan := { bare.plan with queue := [entry 1200] } }
    let spool (down : Bool) (b : Nat) : Part :=
      (committing .running 0 down (entry 1200)).setHead 20 { Head.reset with bobbin := some b }
    let len := bare.threadLength ⟨10, 0⟩
    (bare.commitAngle = bare.commitFrame true false ∧ idle.commitAngle = idle.commitFrame true false ∧
        idle.commitAngle.ctl.c = some 0) ∧
      ((spool true (len + 1)).complete ∧ ((spool true (len + 1)).commitAngle.head 20).bobbin = some 1 ∧
        ((spool true len).commitAngle.head 20).bobbin = some 0 ∧
        ((spool true len).commitAngle.head 20).latches.bobbin = true ∧
        ((spool false len).commitAngle.head 20).bobbin = some len) := by
  simp only [Part.complete]; decide +kernel

/-- STOP answers with the machine record, behind a stop ordinal when there is one. -/
theorem witness_ArmAndStopByState_payload :
    let record (p : Part) : List Byte := p.observe.machineItems.flatMap Item.bytes
    (status (.stop 3) (machine .starting 0) = some .done ∧
        payload (.stop 3) (machine .starting 0) =
          some ([0#8, 0#8, 3#8] ++ record (after (.stop 3) (machine .starting 0)))) ∧
      (status (.stop 0) (machine .changing 0) = some .done ∧ (after (.stop 0) (machine .changing 0)).ctl.pending = some .stop ∧
        payload (.stop 0) (machine .changing 0) = some (record (after (.stop 0) (machine .changing 0)))) := by
  decide +kernel

/-- The speeds given and in force differ: LOCK, CLEAR and RESTART keep both. -/
theorem witness_speeds_kept :
    let twoSpeeds (p : Part) : Part := { p with plan := { p.plan with vSet := 700, requested := 800 } }
    let speeds (p : Part) : Nat × Nat := (p.plan.vSet, p.plan.requested)
    (speeds (after .drvFltFall (twoSpeeds (machine .running 0))) = (700, 800) ∧
        (after .drvFltFall (twoSpeeds (machine .running 0))).ctl.state = .locked) ∧
      (speeds (after .clear (twoSpeeds (machine .locked 4))) = (700, 800) ∧
        (after .clear (twoSpeeds (machine .locked 4))).ctl.state = .ready) ∧
      (speeds (after .restart (twoSpeeds (machine .ready 4))) = (700, 800) ∧
        (after .restart (twoSpeeds (machine .ready 4))).ctl.state = .unready) ∧
      (let p := clearing (twoSpeeds (lockedRepair .outbound none (repairedCase 4))) none;
        speeds (after .traverseLegComplete p) = (700, 800) ∧
          (after .traverseLegComplete p).ctl.travel =
            some ⟨.clear, .frame (placement28.committed (p.idealStanding 9)), false, none⟩) := by
  decide +kernel

/-- R209: an absent field keeps its bytes, all 0: the strobes of LOOKUP MAPS, the travel of LOOKUP MACHINE. -/
theorem test_absent_bytes :
    ((payload .lookupMaps Part.reset).map fun l => (l.drop 4).take 8) = some (List.replicate 8 0#8) ∧
      ((optItems Part.reset.ctl.travel ⟨.clear, .ordinal 0, false, none⟩ Travel.items).flatMap Item.bytes).all (· == 0#8) =
        true := by
  decide +kernel

/-! ## Reports to a selector at rest, and waiting heads -/

/-- Head 19's board about to be heard in an idle exchange, its selector in a state, ordered to halt. -/
def heard (p : Part) (st : SelectorState) : Part :=
  let q := p.setSelector 19 { rested 1 with state := st, latched := st.detent, halt := true, jamLive := true }
  { q with chain := { q.chain with seq := 7, exchange := some ⟨.idle, 19, 20⟩ } }

/-- R130: recovery, no change, a JAMMED selector, and the disturbance of a DISABLED head, with STOP and with PARK. -/
theorem witness_SelectorRequestsAndTheirEnds_reports :
    let told (p : Part) (st : SelectorState) : Part := after (.headReport report7) (heard p st)
    let ready := machine .ready 0
    let parking : Part := (machine .ready 0).setHead 19 { Head.reset with actions := { Head.reset.actions with jam := .park } }
    ((around (heard ready .unsure)).awake ∧ (heard ready .unsure).complete ∧ isHead 19 = true) ∧
      ((told ready .unsure).selector 19 = { rested 1 with latched := none } ∧
        (told ready .jammed).selector 19 = { rested 1 with state := .jammed, latched := none, jamLive := true } ∧
        ((told ready (.atNeedle 1)).selector 19).state = .atNeedle 1 ∧ (told ready (.atNeedle 1)).heads = ready.heads) ∧
      (((told ready (.atNeedle 2)).selector 19).state = .unsure ∧ ((told ready (.atNeedle 2)).selector 19).latched = none ∧
        ((told ready (.atNeedle 2)).head 19).latches.jam = true ∧ (told ready (.atNeedle 2)).ctl.cause = .fault ∧
        (told (machine .running 0) (.atNeedle 2)).ctl.state = .stopping ∧
        (told (machine .changing 0) (.atNeedle 2)).ctl.pending = some .fault) ∧
      (((told parking (.atNeedle 2)).head 19).state = .parked .jam ∧ (told parking (.atNeedle 2)).ctl = parking.ctl) ∧
      (let off := ready.setHead 19 { Head.reset with enable := false, state := .disabled };
        (told off (.atNeedle 2)).heads = off.heads ∧ (told off (.atNeedle 2)).port.notices.fault = false ∧
          ((told off (.atNeedle 2)).selector 19).state = .unsure) := by
  simp only [State.awake, Part.complete]; decide +kernel

/-- An open change in which head 19 waits, its MANUAL request ended, its thread and selector as given. -/
def waiting (t : ThreadState) (st : SelectorState) : Part :=
  let p := inChange .colour false
  let q := (p.setThread 19 2 { threaded with state := t }).setSelector 19 { rested 1 with state := st, latched := none }
  { q with arb := { q.arb with change := some ⟨0, 1, 2, .colour, false, [18, 19], 0, 0, 0, 0, true⟩ } }

/-- R143: parked for its thread and for its selector, latched, given a DEMAND request that is granted, sat out, passed over, PARKED;
and by the arrival of its MANUAL request. -/
theorem witness_SelectorRequestsAndTheirEnds_waiting :
    let seen (p : Part) : Part := p.examineWaiting 19
    let record (added latched satOut parked : Nat) : Option ChangeRecord :=
      some ⟨0, 1, 2, .colour, false, [18], added, latched, satOut, parked, true⟩
    let state (p : Part) : HeadState := (p.head 19).state
    ((waiting .ready (.atNeedle 2)).complete ∧ (waiting .ready (.atNeedle 2)).mapEntry 19 2 = some 2) ∧
      ((seen (waiting .broken (.atNeedle 2))).arb.change = record 0 0 0 1 ∧
        state (seen (waiting .broken (.atNeedle 2))) = .parked .break_ ∧
        state (seen (waiting .blocked (.atNeedle 2))) = .parked .operator ∧
        state (seen (waiting .ready .jammed)) = .parked .jam) ∧
      ((seen (waiting .ready (.atNeedle 2))).arb.change = record 0 1 0 0 ∧
        ((seen (waiting .ready (.atNeedle 2))).selector 19).latched = some 2) ∧
      ((seen (waiting .ready (.atNeedle 1))).arb.change = record 1 0 0 0 ∧
        ((seen (waiting .ready (.atNeedle 1))).changeRequest 19).state = .moving ∧
        ((seen (waiting .ready (.atNeedle 1))).changeRequest 19).target = 2 ∧
        ((seen (waiting .ready (.atNeedle 1))).changeRequest 19).changeNo = some 0) ∧
      (let p : Part := { waiting .ready (.atNeedle 1) with
          arb := { (waiting .ready (.atNeedle 1)).arb with slots := List.replicate 6 (some 18) } };
        ((seen p).changeRequest 19).state = .pending ∧ ((seen p).selector 19).state = .atNeedle 1) ∧
      (let p : Part := { waiting .ready (.atNeedle 2) with maps := { Maps.reset with active := [] } };
        (seen p).arb.change = record 0 0 1 0) ∧
      ((seen ((waiting .ready (.atNeedle 2)).setHead 19 { Head.reset with state := .parked .operator })).arb.change =
          record 0 0 0 0 ∧
        ((seen ((waiting .ready (.atNeedle 2)).setHead 19 { Head.reset with state := .parked .operator })).selector 19).latched =
          some 2) ∧
      (let q := alsoPending (arrival (inChange .colour false));
        let p := (q.setChangeRequest 19 { q.changeRequest 19 with origin := .manual, changeNo := none }).setThread 19 2 threaded;
        let w : Part := { p with
          maps := { p.maps with active := List.replicate 4 (none :: some 1 :: List.replicate 22 none) }
          arb := { p.arb with change := some ⟨0, 1, 2, .colour, false, [18, 19], 1, 0, 0, 0, true⟩ } };
        w.mapEntry 19 2 = some 1 ∧ (after (.headReport report7) w).arb.change = record 1 1 0 0 ∧
          (after (.headReport report7) w).ctl = w.ctl ∧ (after (.headReport report7) w).port.notices.selectDone = true) := by
  refine ⟨by simp only [Part.complete]; decide +kernel, by decide +kernel, by decide +kernel, by decide +kernel, by decide +kernel,
    by decide +kernel, by decide +kernel, by decide +kernel⟩

/-! ## The FAULT line -/

/-- Mode ALL: a latch, a masked latch, a DISABLED head's latch, a head not fitted; mode FOLLOW: a live status of the head followed. -/
theorem witness_FaultsAreDeclared_line :
    let p := machine .ready 0
    let only (k : FaultKind) : KindSet := KindSet.put ⟨false, false, false, false, false⟩ true k
    let marked (h : Nat) (mask : KindSet) : Part := p.setHead h { Head.reset with latches := only .jam, mask := mask }
    let follow (p : Part) (h : Nat) : Part := { p with par := { p.par with follow := some h } }
    let fitted (p : Part) (n : Nat) : Part := { p with par := { p.par with headsFitted := n } }
    (p.port.inReset = false ∧ p.par.follow = none ∧ p.complete ∧ p.faultLow = false) ∧
      ((marked 20 (only .break_)).faultLow = true ∧ (marked 20 (only .jam)).faultLow = false ∧
        (fitted (marked 20 (only .break_)) 19).faultLow = false) ∧
      ((follow (marked 20 (only .break_)) 20).faultLow = false ∧
        (follow (p.setSelector 20 { rested 1 with jamLive := true }) 20).faultLow = true ∧
        (follow (p.setSelector 20 { rested 1 with jamLive := true }) 19).faultLow = false ∧
        (follow (p.setThread 20 15 { threaded with state := .broken }) 20).faultLow = true ∧
        (follow (p.setHead 20 { Head.reset with bobbin := some 0, mask := only .bobbin }) 20).faultLow = false) := by
  simp only [Part.complete]; decide +kernel

/-! ## Forms that share a statement -/

/-- An evaluated span keeps each sample, its value, its use and its verdict. -/
theorem witness_IdleExchangeCountsReports_samples :
    (senses (down4 [⟨100, .check⟩]) false 0 2 (reportOf 4#8 0xC0#8 255#8 0x80#8 200#8)).lastSpan =
      some (.evaluated 4 1 255 16 16 false [⟨some 200, .check, .inBand⟩]) := by
  decide +kernel

/-- A travel that steps, from ordinal 4 at the position of its stitch. -/
def stepping (k : TravelKind) (o : Nat) : Part :=
  let p := travelling k (.ordinal o) 4
  { p with pos := { p.pos with p := some (p.idealStanding 4) } }

/-- The leg after a step of BACK and of FWD: its ordinal, P and target. -/
theorem witness_FrameMovesComplete_next :
    let next (p : Part) : Part := after .traverseLegComplete p
    let seen (p : Part) (c : Nat) (v : Vec) : Prop :=
      (next p).ctl.c = some c ∧ (next p).ctl.travel = p.ctl.travel ∧ (next p).pos.p = some v ∧
        (next p).pos.n = ⟨10, 10⟩ ∧
        (next p).pos.move = some
          ⟨.leg, ⟨10, 10⟩, placement28.committed v, placement28.committed v, false, false, p.par.fTrav, .found, .found⟩
    ((stepping .back 0).pos.placement = some placement28 ∧ ((stepping .back 0).serve 2).isSome = true ∧
        ((stepping .fwd 9).serve 5).isSome = true) ∧
      seen (stepping .back 0) 3
        ((((stepping .back 0).serve 2).map fun sv =>
          ((stepping .back 0).idealStanding 4).sub (placement28.ideal Params.reset sv.d)).getD ⟨0, 0⟩) ∧
      seen (stepping .fwd 9) 5
        ((((stepping .fwd 9).serve 5).map fun sv =>
          ((stepping .fwd 9).idealStanding 4).add (placement28.ideal Params.reset sv.d)).getD ⟨0, 0⟩) := by
  decide +kernel

/-- A synchronized count at no landmark, the passages whose corrections lie farthest apart, and the speed over a quarter. -/
theorem witness_EncoderCountsTheAngle_counts :
    let count (i : Bool) (t : Nat) (p : Part) : Part := after (.encoderCount true false i t) p
    let quarter (p : Part) : Part := { p with now := 90, shaft := { p.shaft with lastQuarter := some 50 } }
    ((turning 300 true false).shaft.synced = true ∧ (turning 300 true false).shaft.startAngle = 720) ∧
      ((count false 10 (turning 300 true false)).shaft.angle = 301 ∧
        (count false 10 (turning 300 true false)).shaft.synced = true ∧
        (count false 10 (turning 300 true false)).plan = (turning 300 true false).plan ∧
        (count false 10 (turning 300 true false)).chain = (turning 300 true false).chain) ∧
      ((count true 10 (turning 0 true false)).shaft.correction = 1 ∧
        (count true 10 (turning 510 true false)).shaft.correction = 511 ∧
        (count true 10 (turning 511 true false)).shaft.correction = -512 ∧
        (count true 10 (turning 1023 true false)).shaft.correction = 0 ∧
        (count true 10 (turning 511 false false)).shaft.synced = true ∧
        (count true 10 (turning 511 true false)).shaft.angle = 0) ∧
      ((count false 10 (quarter (turning 255 true false))).shaft.speed = 300000 ∧
        (count false 10 (quarter (turning 254 true false))).shaft.speed = (turning 254 true false).shaft.speed ∧
        (count false 10 (turning 255 true false)).shaft.speed = (turning 255 true false).shaft.speed) ∧
      (count false 10 (turning 711 true true)).shaft.spentCommit = false := by
  decide +kernel

/-- The move of a lock: a leg keeps its target, a sewing move is given that of P; a request in flight, its selector, its slot. -/
theorem witness_LockMakesSafe_move :
    let lock (p : Part) : Part := after .estopFall p
    let p := machine .running 4
    let moved (m : Move) : Part := { p with pos := { p.pos with p := some ⟨0, 0⟩, move := some m } }
    let sewing : Move := { leg false with kind := .sewing }
    let r : Part := (requested .ready .manual .moving).setSelector 20 { rested 1 with state := .moving }
    let r := { r with arb := { r.arb with slots := set1 r.arb.slots 1 (some 20) } }
    ((around p).awake ∧ p.complete ∧ p.ctl.state ≠ .locked) ∧
      ((lock (moved (leg false))).pos.move = some (leg true) ∧
        (lock (moved sewing)).pos.move =
          some { sewing with interrupted := true, target := ⟨10000, 5000⟩, goal := ⟨10000, 5000⟩ } ∧
        (lock p).pos.move = none) ∧
      ((r.changeRequest 20).state.inFlight = true ∧
        (lock r).changeRequest 20 = { r.changeRequest 20 with state := .failed .abort, deadline := none } ∧
        ((lock r).selector 20).state = .unsure ∧ ((lock r).selector 20).halt = true ∧
        ((lock r).arb.slots.all (· == none)) = true ∧ (lock r).port.notices.selectDone = true ∧
        (lock p).port.notices.selectDone = false ∧ (lock r).selector 19 = r.selector 19) := by
  simp only [State.awake, Part.complete]; decide +kernel

/-- An orientation, a mirror and a DISCARD outside their encodings, and CASES before them. -/
theorem witness_ActivateBringsTheFrameToTheOrigin_encodings :
    let p := withCase case18 (machine .ready 0)
    let q : Part := { p with lib := { p.lib with designs := p.lib.designs.set 4 (design18 .sealed) } }
    status (.activate 3 0 0 4 0 1024 1024 0) sealedPart = some .range ∧
      status (.activate 3 0 0 0 2 1024 1024 0) sealedPart = some .range ∧
      status (.activate 3 0 0 0 0 1024 1024 2) sealedPart = some .range ∧
      (q.ctl.design = some 3 ∧ q.casesName 3 = true ∧ (q.lib.design 4).state = .sealed) ∧
      status (.activate 4 0 0 4 0 1024 1024 1) q = some .range ∧
      status (.activate 4 0 0 4 0 1024 1024 0) q = some .cases ∧ status (.activate 4 0 0 0 0 1024 1024 2) q = some .cases := by
  decide +kernel

/-- START with a PARKED head: a case opens for it in the lowest free record, or the table is full. -/
theorem witness_StartBeginsSewing_parked :
    let p := (machine .ready 4).setHead 20 { Head.reset with state := .parked .operator }
    let q : Part := { p with cases := { p.cases with records := p.cases.records.set 0 (some case18) } }
    let full : Part := { p with cases := { p.cases with records := List.replicate 40 (some case18) } }
    (p.complete ∧ p.openCaseOf 20 = none ∧ (p.head 20).state.isParked = true ∧ (around p).listens ∧
        (∀ k, k < 40 → full.caseAt k ≠ none) ∧ full.openCaseOf 20 = none) ∧
      (payload .start p = some [3#8] ∧ (after .start p).caseAt 0 = some ⟨20, 3, 1, 4, none, none, .isOpen, none⟩ ∧
        (after .start q).caseAt 0 = some case18 ∧
        (after .start q).caseAt 1 = some ⟨20, 3, 1, 4, none, none, .isOpen, none⟩ ∧
        (after .start p).ctl.state = .starting ∧ (after .start p).port.notices.case = true ∧
        ((after .start p).selector 20).latched = some 1) ∧
      (payload .start full = some [5#8] ∧ (after .start full).ctl.state = .stopping ∧
        (after .start full).ctl.phase = some .slowing ∧ (after .start full).ctl.pending = some .casesFull ∧
        (after .start full).cases.records = full.cases.records ∧ (after .start full).shaft.drive = .turning) := by
  simp only [State.listens, Part.complete]; decide +kernel

/-- A change without work ends in the step of its entry: in READY with COLOUR, or in STARTING; and head 19 is parked in it. -/
theorem witness_StartBeginsSewing_atonce :
    let p := machine .ready 4
    let broken := p.setThread 19 1 { threaded with state := .broken }
    let cont : Part := { p with par := { p.par with continueAfterChange := true } }
    (p.par.continueAfterChange = false ∧ p.mapEntry 19 1 = some 1 ∧ p.complete) ∧
      ((p.enterChanging .colour 1).ctl.state = .ready ∧ (p.enterChanging .colour 1).ctl.cause = .colour ∧
        (p.enterChanging .colour 1).port.notices.stopped = true ∧
        (p.enterChanging .colour 1).arb.change = some ⟨0, 0, 1, .colour, false, [], 0, 20, 0, 0, false⟩) ∧
      ((p.enterChanging .start 1).ctl.state = .starting ∧ (cont.enterChanging .colour 1).ctl.state = .starting ∧
        (p.enterChanging .start 1).shaft.drive = .turning) ∧
      ((broken.enterChanging .colour 1).head 19 = { Head.reset with state := .parked .break_ } ∧
        ((broken.enterChanging .colour 1).selector 19).latched = none) := by
  simp only [Part.complete]; decide +kernel

/-- The repaired head's request arrives in PREPARE: SEWING, or home with the pending cause. -/
theorem witness_RepairTakenGoesOutbound_prepare :
    let p (k : Option Pending) : Part :=
      let q := machine .repairing 9
      let q : Part := { q with
        ctl := { q.ctl with pending := k, repair := some ⟨39, 19, 9, .prepare, none, none, none, false⟩ } }
      withCase { repairedCase 4 with head := 19 } (arrival q)
    let t (k : Option Pending) : Part := after (.headReport report7) (p k)
    ((around (p none)).awake ∧ (p none).complete ∧ (p none).caseAt 39 = some { repairedCase 4 with head := 19 } ∧
        (p none).pos.placement = some placement28 ∧ (p none).lines.drvFlt = true ∧
        ((p none).changeRequest 19).cancelAsked = false) ∧
      ((t none).ctl.repair = some ⟨39, 19, 9, .sewing, some 1, none, none, false⟩ ∧
        (t none).ctl.state = .repairing ∧ (t none).shaft.drive = .turning ∧
        ((t none).selector 19).latched = some 1 ∧ ((t none).changeRequest 19).occurred = true ∧
        (t none).plan.queue.head?.map (fun e => (e.ordinal, e.index)) = some (4, 1) ∧
        (t none).caseAt 39 = (p none).caseAt 39) ∧
      ((t (some .stop)).ctl.repair = some ⟨39, 19, 9, .homebound, none, none, some .stop, false⟩ ∧
        (t (some .stop)).caseAt 39 = some { caseOf 4 (some 5) none .closed with head := 19 } ∧
        (t (some .stop)).port.notices.case = true ∧
        (t (some .stop)).pos.p = some ((p none).idealStanding 9)) := by
  simp only [State.awake, Part.complete]; decide +kernel

/-- The strobe step of START: a held strobe, the map of auto_strobe or of the line, loaded or not; in a change that is due; and a held
strobe at the end of a change. -/
theorem witness_StrobesApplyOrAreHeld_steps :
    let p := staged .ready
    let auto (z : AutoStrobe) (sel : Bool) : Maps :=
      (after .start { p with par := { p.par with autoStrobe := z }, lines := { p.lines with mapsel := sel } }).maps
    let strobe (q : Part) : Maps :=
      (after .start { q with maps := { p.maps with held := some ⟨.line, .a⟩ } }).maps
    let ended (h : Option HeldStrobe) : Maps :=
      (after (.headReport report7) (arrival
        { inChange .colour false with maps := { p.maps with held := h } })).maps
    (p.cur ≠ (p.activeDesign.map Design.total).getD 0 ∧ p.changeDue = false ∧ (owing .ready 2).changeDue = true) ∧
      (strobe p = { p.maps with active := p.maps.a, origin := .a, last := some ⟨.line, .a, .applied, .ready⟩ } ∧
        strobe (owing .ready 2) =
          { p.maps with active := p.maps.a, origin := .a, last := some ⟨.line, .a, .applied, .changing⟩ }) ∧
      (auto .a false = { p.maps with active := p.maps.a, origin := .a, last := some ⟨.auto, .a, .applied, .ready⟩ } ∧
        auto .line false = auto .a false ∧
        auto .b false = { p.maps with last := some ⟨.auto, .b, .ignored, .ready⟩ } ∧ auto .line true = auto .b false ∧
        auto .off true = p.maps) ∧
      (ended (some ⟨.request, .a⟩) =
          { p.maps with active := p.maps.a, origin := .a, last := some ⟨.request, .a, .applied, .changing⟩ } ∧
        ended none = p.maps) := by
  decide +kernel

/-- PARK while the machine sews: a CLOSED case reopened, what it then covers absorbed or superseded, and a full table. -/
theorem witness_HeadAndCaseRequests_park :
    let p := machine .running 6
    let park (k : Case) (other : Option Case) : Part :=
      after (.park 20) { p with cases := { p.cases with records := (p.cases.records.set 39 (some k)).set 1 other } }
    let closed := caseOf 4 (some 5) none .closed
    let reopened (floor : Nat) := some (caseOf 4 none (some floor) .isOpen)
    ((p.sews = true ∧ p.complete ∧ (p.lib.design 3).blockOf 6 = some ⟨0, 1, 0, 0, 11⟩) ∧
      (park (caseOf 4 (some 4) none .closed) none).caseAt 39 = some (caseOf 4 (some 4) none .closed) ∧
      (park (caseOf 4 (some 4) none .closed) none).caseAt 0 = some (caseOf 6 none none .isOpen) ∧
      (park closed none).caseAt 39 = reopened 5 ∧ (park closed none).caseAt 0 = none ∧
      (park closed none).port.notices.case = true) ∧
      ((park closed (some (caseOf 5 (some 9) none .closed))).caseAt 1 = none ∧
        (park closed (some (caseOf 5 (some 9) none .closed))).caseAt 39 = reopened 9 ∧
        (park closed (some (caseOf 6 (some 9) none .closed))).caseAt 39 = reopened 5 ∧
        (park closed (some (caseOf 6 (some 9) none .closed))).caseAt 1 = some (caseOf 6 (some 9) none .closed) ∧
        (park closed (some (caseOf 3 (some 4) none .closed))).caseAt 39 = reopened 5 ∧
        (park closed (some (caseOf 3 (some 4) none .mended))).caseAt 1 = none ∧
        (park closed (some (caseOf 1 (some 3) none .mended))).caseAt 1 = some (caseOf 1 (some 3) none .mended) ∧
        (park closed (some (caseOf 6 (some 9) none .mended))).caseAt 1 = some (caseOf 6 (some 9) none .mended)) ∧
      (let full (s : CtlState) : Part :=
          after (.park 20) { machine s 6 with cases := { p.cases with records := List.replicate 40 (some case18) } };
        (full .running).ctl.state = .stopping ∧ (full .running).ctl.phase = some .slowing ∧
          (full .running).ctl.pending = some .casesFull ∧ (full .running).cases.records = List.replicate 40 (some case18) ∧
          (full .stopping).ctl.phase = none) := by
  simp only [Part.complete]; decide +kernel

/-- A head enabled in CHANGING: at its needle, parked for its thread, without a needle, and with a request added. -/
theorem witness_HeadAndCaseRequests_enabled :
    let base := (alsoPending (arrival (inChange .colour false))).setHead 18 { Head.reset with enable := false, state := .disabled }
    let enable (p : Part) : Part := after (.amendHead 18 { headFields with enable := ⟨1, 1⟩ }) p
    let with2 (p : Part) : Part :=
      { p.setThread 18 2 threaded with maps := { p.maps with active := List.replicate 4 (none :: some 2 :: List.replicate 22 none) } }
    let p (n : Nat) : Part := with2 (base.setSelector 18 (rested n))
    ((around (p 2)).listens ∧ (p 2).complete ∧ (p 2).mapEntry 18 2 = some 2 ∧ ((p 2).thread 18 2).state = .ready ∧
        ((p 2).changeRequest 19).state.inFlight = true ∧ ((p 2).changeRequest 19).changeNo = some 0 ∧
        (p 2).ctl.state = .changing ∧ ((p 2).arb.change.map ChangeRecord.isOpen) = some true) ∧
      (((enable (p 2)).head 18).state = .active ∧ ((enable (p 2)).selector 18).latched = some 2 ∧
        (enable (p 2)).ctl = (p 2).ctl) ∧
      (((enable ((p 2).setThread 18 2 { threaded with state := .broken })).head 18).state = .parked .break_ ∧
        ((enable ((p 2).setThread 18 2 { threaded with state := .broken })).selector 18).latched = none) ∧
      (((enable { p 2 with maps := { (p 2).maps with active := [] } }).head 18).state = .active ∧
        ((enable { p 2 with maps := { (p 2).maps with active := [] } }).selector 18).latched = none) ∧
      (((enable (p 1)).changeRequest 18).target = 2 ∧ ((enable (p 1)).changeRequest 18).changeNo = some 0 ∧
        ((enable (p 1)).selector 18).latched = none ∧ ((enable (p 1)).head 18).state = .active) := by
  simp only [State.listens, Part.complete]; decide +kernel

/-- The value bytes of a field that carries no value are 0 (R209): any other are outside the encoding, and the amendment is RANGE. -/
theorem test_value_bytes_without_a_value :
    [Instr.putRun 3 1 { fields 0 1 with next := ⟨0, 1⟩ }, .putRun 3 1 { fields 0 1 with endShift := ⟨0, (0, 1)⟩ },
        .amendDesign 3 ⟨0, 1⟩ [], .amendDesign 3 ⟨2, 1⟩ []].all
        (fun c => status c (holding (loaded18 5)) == some .range) = true ∧
      [Instr.amendMachine ⟨0, 1⟩, .amendMap 1 4 [⟨1, ⟨0, 1⟩⟩], .amendThread 1 1 ⟨2, 1⟩ ⟨0, (0, 0)⟩ ⟨0, 0⟩,
        .amendHead 20 { headFields with mask := ⟨0, 1⟩ }, .amendParameters { noParams with vMin := ⟨0, 1⟩ },
        .amendParameters { noParams with faultLine := ⟨1, (0, 5)⟩ }].all
        (fun c => status c (machine .ready 0) == some .range) = true ∧
      [Instr.amendMachine ⟨0, 0⟩, .amendMap 1 4 [⟨1, ⟨0, 0⟩⟩], .amendThread 1 1 ⟨2, 0⟩ ⟨0, (0, 0)⟩ ⟨0, 0⟩,
        .amendHead 20 headFields, .amendParameters noParams].all
        (fun c => status c (machine .ready 0) == some .done) = true := by
  decide +kernel

/-! ## The remaining forms -/

/-- A change that ends at once in READY drops the restore mark that a RESTORE_HEAD in SETTLING left. -/
theorem witness_StartBeginsSewing_marks :
    let p : Part := { machine .stopping 4 with cases := { Cases.reset with marks := set1 Cases.reset.marks 20 (some 4) } }
    let q := p.enterChanging .colour 1
    p.complete ∧ p.markOf 20 = some 4 ∧ p.par.continueAfterChange = false ∧ q.ctl.state = .ready ∧
      q.cases.records = p.cases.records ∧ (q.cases.marks.all (· == none)) = true ∧
      (p.enterChanging .start 1).ctl.state = .starting ∧ (p.enterChanging .start 1).cases = p.cases := by
  simp only [Part.complete]; decide +kernel

/-- The START line, armed, with a colour change owed. -/
theorem witness_ArmAndStopByState_line :
    let p := owing .ready 2
    let q : Part := { p with ctl := { p.ctl with armed := true } }
    (around q).awake ∧ (around q).listens ∧ q.changeDue = true ∧ q.ctl.armed = true ∧ q.blockAtCur.isSome = true ∧
      q.cur ≠ (q.activeDesign.map Design.total).getD 0 ∧
      (after .startLineFall q).arb.change.map ChangeRecord.kind = some .start ∧ (after .startLineFall q).lines.start = false := by
  simp only [State.awake, State.listens]; decide +kernel

/-- A trim entry at the head: the trim flag of an ACTIVE head, of one without a latched needle, and of another than the repaired one. -/
theorem test_trim_flag :
    let p : Part := { issuing with plan := { issuing.plan with queue := [{ entry 300 with down := false, trim := true }] } }
    let rep (h : Nat) : Part :=
      { p with ctl := { p.ctl with state := .repairing, repair := some ⟨39, h, 5, .sewing, some 1, none, none, false⟩ } }
    p.composeCommand 20 = ⟨some 0, false, true, []⟩ ∧
      (p.setSelector 20 { rested 1 with latched := none }).composeCommand 20 = ⟨some 0, false, false, []⟩ ∧
      ((rep 20).composeCommand 20).trim = true ∧ ((rep 19).composeCommand 20).trim = false ∧
      ({ p with ctl := { p.ctl with state := .locked } } : Part).composeCommand 20 = ⟨none, false, false, []⟩ := by
  decide +kernel

/-- Two entries, the first about to be committed, in a controlled stop or out of it. -/
def slowingAt (st : CtlState) (demand : Nat) (stop : PlannedStop) : Part :=
  let p := committing st 4 true (entry 1200)
  { p with
    plan := { p.plan with
      queue := [{ entry 1200 with ordinal := 4, issued := true, complete := true }, { entry 1200 with ordinal := 5 },
        { entry 1200 with ordinal := 6 }]
      demand := demand, vSet := 800, requested := 800, stop := stop } }

/-- The commit that finds the last revolution: with no stop held there, with one held there, above v_stop, and outside a stop. -/
theorem witness_CommitFrameRecordsWhatWasSent_slowing :
    let q (st : CtlState) (demand : Nat) (stop : PlannedStop) : Part := (slowingAt st demand stop).commitAngle
    let seen (p : Part) (left : List (Nat × Bool)) (stop : PlannedStop) (demand given : Nat) : Bool :=
      p.plan.queue.map (fun e => (e.ordinal, e.stopAfter)) == left && p.plan.stop == stop && p.plan.demand == demand &&
        p.shaft.demand == given
    ((slowingAt .stopping 500 .none).complete ∧ (slowingAt .stopping 500 .none).slowing = true ∧
        (slowingAt .running 500 .none).slowing = false) ∧
      (seen (q .stopping 500 .none) [(5, true)] (.placed 5 false .count) 300 300 = true ∧
        seen (q .stopping 500 (.placed 5 false .line)) [(5, true)] (.placed 5 false .line) 300 300 = true ∧
        seen (q .stopping 500 (.placed 9 false .line)) [(5, true)] (.placed 5 false .count) 300 300 = true ∧
        seen (q .stopping 700 .none) [(5, false), (6, false)] .none 360 360 = true ∧
        seen (q .running 240 .none) [(5, false), (6, false)] .none 320 320 = true) := by
  simp only [Part.complete]; decide +kernel

/-- A watch one count before its trip. -/
def overrunning (index reverse : Nat) : Part :=
  { turning 199 true false with
    shaft := { (turning 199 true false).shaft with indexCount := index, reverseRun := reverse } }

/-- The counts that trip the watches, and the ones before them; the commit angle of the tripping count is not delivered. -/
theorem witness_LockMakesSafe_watches :
    let forward (n : Nat) : Part := after (.encoderCount true false false 10) (overrunning n 0)
    let reverse (n : Nat) : Part := after (.encoderCount false true false 10) (overrunning 0 n)
    ((around (overrunning 1100 32)).awake ∧ (overrunning 1100 32).complete ∧
        (overrunning 1100 32).shaft.drive ≠ .disabled ∧ (overrunning 1100 32).ctl.state ≠ .locked) ∧
      ((forward 1100).ctl.state = .locked ∧ (forward 1100).ctl.lockCause = some .encoder ∧
        (forward 1100).shaft.synced = false ∧ (forward 1100).shaft.lastFault = .index ∧ (forward 1100).shaft.angle = 200 ∧
        (forward 1100).shaft.spentCommit = false ∧ (forward 1100).shaft.indexCount = 0 ∧
        (forward 1099).ctl.state = .running ∧ (forward 1099).shaft.indexCount = 1100) ∧
      ((reverse 32).ctl.state = .locked ∧ (reverse 32).ctl.lockCause = some .encoder ∧ (reverse 32).shaft.synced = true ∧
        (reverse 32).shaft.lastFault = .reverse ∧ (reverse 32).shaft.angle = 198 ∧ (reverse 32).shaft.reverseRun = 0 ∧
        (reverse 31).ctl.state = .running ∧ (reverse 31).shaft.reverseRun = 32) := by
  simp only [State.awake, Part.complete]; decide +kernel

/-- A home search that CLEAR restarted: found on its last axis, and not found. -/
theorem witness_HomeSearchFollowsItsSensors_clear :
    let of (x y : Search) : Part :=
      let p := searching x y
      { p with
        ctl := { p.ctl with
          travel := some ⟨.clear, .frame ⟨0, 0⟩, false, none⟩, lockCause := some .drive
          lockedFrom := some ⟨.traversing, none, none⟩ }
        plan := { p.plan with vSet := 500 } }
    let seen (c : Instr) (p : Part) (homed : Bool) (r : HomeResult) : Bool :=
      let t := after c p
      t.ctl.state == .unready && t.ctl.lockCause == none && t.ctl.lockedFrom == none && t.pos.homed == homed &&
        t.pos.homeResult == r && t.port.notices == { Notices.none with homed := true, cleared := true } && t.plan.vSet == 500
    ((of (.seeking 40) .found).travelKind = some .clear ∧ (of (.seeking 40) .found).ctl.design = none) ∧
      (seen (.homeSensorEdge .x true) (of (.seeking 40) .found) true .ok = true ∧
        seen (.homeSensorEdge .y true) (of .found (.seeking 40)) true .ok = true ∧
        seen (.homeNotFound .x) (of (.seeking 40) .leaving) false .notFound = true ∧
        seen (.homeNotFound .y) (of .found (.seeking 40)) false .notFound = true) ∧
      (after (.homeSensorEdge .x true) (of (.seeking 40) .found)).pos.n = ⟨0, 40⟩ ∧
      (after (.homeNotFound .x) (of (.seeking 40) .leaving)).pos.n.x = 40 - 1048576 := by
  decide +kernel

/-- RESTART while sewing with an OPEN case and a restore mark, with a case to retire, and with a repair run. -/
theorem witness_ClearAndRestart_restart :
    let p (k : Case) : Part :=
      let q := (withCase k commanded).setHead 20 { Head.reset with state := .parked .operator }
      { q with
        ctl := { q.ctl with c := some 6 }
        cases := { q.cases with marks := set1 q.cases.marks 19 (some 6), records := q.cases.records.set 0 (some case18) } }
    let t (k : Case) : Part := after .restart (p k)
    let r (n : Nat) : Part := after .restart (lockedRepair .sewing none (repairedCase n))
    (((p (caseOf 4 none none .isOpen)).complete ∧ (p (caseOf 4 none none .isOpen)).ctl.c = some 6 ∧
          (p (caseOf 4 none none .isOpen)).caseAt 39 = some (caseOf 4 none none .isOpen) ∧
          (p (caseOf 4 none none .isOpen)).openCaseOf 1 = none) ∧
        (t (caseOf 4 none none .isOpen)).caseAt 39 = some (caseOf 4 (some 5) none .closed) ∧
        (t (caseOf 4 none (some 8) .isOpen)).caseAt 39 = some (caseOf 4 (some 8) none .closed) ∧
        (t (caseOf 6 none none .isOpen)).caseAt 39 = none ∧ (t (caseOf 6 none none .isOpen)).port.notices.case = true ∧
        (t (caseOf 4 none none .isOpen)).caseAt 0 = some case18 ∧
        ((t (caseOf 4 none none .isOpen)).cases.marks.all (· == none)) = true ∧
        (t (caseOf 4 none none .isOpen)).chain.out =
          (p (caseOf 4 none none .isOpen)).chain.out ++ [.hold (p (caseOf 4 none none .isOpen)).chain.seq .commit true] ∧
        (t (caseOf 4 none none .isOpen)).chain.exchange = none ∧
        ((t (caseOf 4 none none .isOpen)).link 20).recorded = { Latch.none with ordinal := some 0 } ∧
        ((t (caseOf 4 none none .isOpen)).link 20).sent = none) ∧
      ((r 5).caseAt 39 = some (caseOf 5 (some 5) none .closed) ∧ (r 6).caseAt 39 = some (caseOf 4 (some 5) none .mended) ∧
        (r 6).port.notices.case = true ∧ (r 6).ctl.repair = none) ∧
      (after .restart (machine .running 4)).port.notices = Notices.none := by
  simp only [Part.complete]; decide +kernel

/-- The stop a repair's fill begins with, PLACED where the fill meets it, and PENDING beyond a full queue. -/
theorem witness_RepairTakenGoesOutbound_stop :
    let p := runOf .outbound none none
    let long := withCase { repairedCase 4 with last := some 10 } p
    let arrived (p : Part) : Part := after .traverseLegComplete p
    ((arrived p).plan.stop = .placed 5 true .repair ∧
        (arrived p).plan.queue.map (fun e => (e.ordinal, e.stopAfter)) = [(4, false), (5, false), (5, true)] ∧
        (arrived p).plan.fill = some ⟨6, 1, none⟩) ∧
      (arrived long).plan.stop = .placed 10 true .repair := by
  decide +kernel

/-- A fault with the action PARK while the controller sews: a case at c, at the break ordinal, closed at its block's end, none in a
full table. -/
theorem witness_FaultsAreDeclared_park :
    let parks (st : CtlState) (c : Nat) : Part :=
      (machine st c).setHead 20 { Head.reset with actions := ⟨.park, .park, .park, .park, .park⟩ }
    let full (p : Part) : Part := { p with cases := { p.cases with records := List.replicate 40 (some case18) } }
    let one (p : Part) : Part := { p with cases := { p.cases with records := p.cases.records.set 0 (some case18) } }
    ((around (parks .running 6)).awake ∧ (parks .running 6).complete ∧ (parks .running 6).sews = true ∧
        ((parks .running 6).lib.design 3).blockOf 6 = some ⟨0, 1, 0, 0, 11⟩ ∧
        ((parks .running 13).lib.design 3).blockOf 9 = some ⟨0, 1, 0, 0, 11⟩) ∧
      ((after (.tensionDeclared 20 5 1) (parks .running 6)).caseAt 0 = some (caseOf 6 none none .isOpen) ∧
        (after (.lost 20) (one (parks .stopping 6))).caseAt 1 = some (caseOf 6 none none .isOpen) ∧
        (after (.lost 20) (one (parks .stopping 6))).caseAt 0 = some case18 ∧
        (after (.bobbinDeclared 20 5) (parks .starting 6)).caseAt 0 = some (caseOf 6 none none .isOpen) ∧
        (after (.breakDeclared 20 4 1) (parks .running 6)).caseAt 0 = some (caseOf 4 none none .isOpen) ∧
        (after (.breakDeclared 20 4 1) (parks .running 6)).port.notices.case = true ∧
        (after (.breakDeclared 20 4 1) (parks .running 6)).ctl = (parks .running 6).ctl ∧
        (after (.breakDeclared 20 9 1) (parks .running 13)).caseAt 0 = some (caseOf 9 (some 11) none .closed)) ∧
      (let q := after (.breakDeclared 20 4 1) (full (parks .running 6));
        q.ctl.state = .stopping ∧ q.ctl.phase = some .slowing ∧ q.ctl.pending = some .casesFull ∧
          q.cases = (full (parks .running 6)).cases ∧ q.port.notices.case = false ∧
          (q.head 20).state = .parked .break_) := by
  simp only [State.awake, Part.complete]; decide +kernel

/-- A lowered heads_fitted closes the OPEN case of a head that leaves, and no other. -/
theorem witness_ParametersAmended_fitted :
    let p (k : Case) : Part :=
      let q := (withCase k (machine .ready 6)).setHead 20 { Head.reset with state := .parked .tension }
      { q with cases := { q.cases with records := q.cases.records.set 0 (some case18) } }
    let fit (n : Nat) (p : Part) : Part := after (.amendParameters { noParams with headsFitted := ⟨1, n⟩ }) p
    let o := caseOf 4 none none .isOpen
    ((around (p o)).listens ∧ (p o).heads.length = 20 ∧ (p o).cases.records.length = 40 ∧ (p o).ctl.c = some 6 ∧
        (p o).openCaseOf 20 = some 39) ∧
      ((fit 19 (p o)).caseAt 39 = some (caseOf 4 (some 5) none .closed) ∧ (fit 19 (p o)).caseAt 0 = some case18 ∧
        (fit 19 (p o)).port.notices.case = true ∧ ((fit 19 (p o)).head 20).state = .disabled ∧
        (fit 19 (p (caseOf 6 none none .isOpen))).caseAt 39 = none ∧
        (fit 19 (p (caseOf 6 none (some 7) .isOpen))).caseAt 39 = some (caseOf 6 (some 7) none .closed) ∧
        (fit 20 (p o)).cases = (p o).cases ∧ (fit 20 (p o)).port.notices = (p o).port.notices) := by
  simp only [State.listens]; decide +kernel

/-- A report with four samples, pulses and the button as given. -/
def fourSamples (flags pulses : Byte) (a b c d : Nat) : List Byte :=
  let field (v : Nat) : List Byte := if v < 1024 then [BitVec.ofNat 8 (128 + v / 256), BitVec.ofNat 8 v] else [0#8, 0#8]
  let body := [0xB2#8, 7#8, 4#8, flags, pulses, 1#8] ++ field a ++ field b ++ field c ++ field d
  body ++ [crc8 body]

/-- The run of the debounce count that the statement speaks of, for the band 100 to 900. -/
def debounced : Nat → List (SampleUse × Option Nat) → Nat × Bool
  | k, [] => (k, false)
  | k, (.settle, _) :: rest => debounced k rest
  | k, (.check, none) :: rest => debounced k rest
  | k, (.check, some v) :: rest =>
    if 100 ≤ v ∧ v ≤ 900 then debounced 0 rest
    else if 4 ≤ k + 1 then ((debounced 0 rest).1, true)
    else debounced (k + 1) rest

/-- Several samples of one span: out of the band, SETTLE and missing ones passed over, TENSION declared inside the span. -/
theorem witness_IdleExchangeCountsReports_orders :
    let orders (u : SampleUse) : List SampleOrder := [⟨100, .check⟩, ⟨200, u⟩, ⟨300, .check⟩, ⟨400, .check⟩]
    let p (u : SampleUse) (k : Nat) : Part := sewingExchange (down4 (orders u)) false 0 k 0
    let t (u : SampleUse) (k a b c d : Nat) : Part := after (.headReport (fourSamples 0xC0#8 255#8 a b c d)) (p u k)
    let pairs (u : SampleUse) (a b c d : Nat) : List (SampleUse × Option Nat) :=
      [(.check, some a), (u, some b), (.check, some c), (.check, some d)]
    ((p .check 0).complete ∧ (parseReport (fourSamples 0xC0#8 255#8 99 1 1024 901)).map Report.samples =
        some [some 99, some 1, none, some 901] ∧ ((p .check 0).par.tensionCount = 4)) ∧
      (((t .settle 0 99 1 1024 901).sensing 19).debounce = 2 ∧
        debounced 0 [(.check, some 99), (.settle, some 1), (.check, none), (.check, some 901)] = (2, false) ∧
        ((t .settle 0 99 1 1024 901).sensing 19).lastSpan =
          some (.evaluated 4 1 255 16 16 false
            [⟨some 99, .check, .outOfBand⟩, ⟨some 1, .settle, .settle⟩, ⟨none, .check, .missing⟩,
              ⟨some 901, .check, .outOfBand⟩]) ∧
        (t .settle 0 99 1 1024 901).heads = (p .settle 0).heads ∧ (t .settle 0 99 1 1024 901).port = (p .settle 0).port) ∧
      (((t .check 2 99 901 0 1023).sensing 19).debounce = 2 ∧ debounced 2 (pairs .check 99 901 0 1023) = (2, true) ∧
        ((t .check 2 99 901 0 1023).head 19).latches.tension = true ∧
        ((t .check 3 99 901 500 1023).sensing 19).debounce = 1 ∧ debounced 3 (pairs .check 99 901 500 1023) = (1, true)) := by
  simp only [Part.complete]; decide +kernel

/-- The run meets the three rules the statement gives it. -/
theorem debounced_rules (k : Nat) (rest : List (SampleUse × Option Nat)) :
    debounced k [] = (k, false) ∧
      (∀ y : SampleUse × Option Nat, y.1 = .settle ∨ y.2 = none → debounced k (y :: rest) = debounced k rest) ∧
      ∀ v, debounced k ((.check, some v) :: rest) =
        if 100 ≤ v ∧ v ≤ 900 then debounced 0 rest
        else if 4 ≤ k + 1 then ((debounced 0 rest).1, true)
        else debounced (k + 1) rest := by
  refine ⟨by rw [debounced], ?_, fun v => by rw [debounced]⟩
  rintro ⟨u, v⟩ h
  cases u <;> cases v <;> simp_all [debounced]

/-- A button in a sewing exchange: an ACTIVE head parked, a PARKED one restored, of a span judged good and of one held. -/
theorem witness_IdleExchangeCountsReports_button :
    let press (l : Latch) (hd : Head) : Head :=
      (after (.headReport (fourSamples (if l.down then 0xE0#8 else 0xA0#8) 255#8 1024 1024 1024 1024))
        ((sewingExchange l false 0 0 0).setHead 19 hd)).head 19
    let held : Head := { Head.reset with state := .parked .tension }
    ((parseReport (fourSamples 0xE0#8 255#8 1024 1024 1024 1024)).map Report.button = some true ∧
        (sewingExchange (down4 []) false 0 0 0).lengthOf 4 = 16) ∧
      press (down4 []) Head.reset = { Head.reset with state := .parked .operator, button := some (.parked, 7) } ∧
      press (down4 []) held = { held with state := .active, button := some (.restored, 7) } ∧
      press { down4 [] with down := false } Head.reset =
        { Head.reset with state := .parked .operator, button := some (.parked, 7) } := by
  decide +kernel
end Sys2Proof.Tests
end

section
/-! PROOFS of the design library's reset, OPEN_DESIGN and SEAL. First what each operation concerned answers, case by case;
then the three statements, each put together from these. -/

namespace Sys2Proof.Machine

/-! ## Design numbers -/

theorem isDesign_of_lt {d : Nat} (h : d < 16) : isDesign d = true := decide_eq_true h

theorem isDesign_of_le {d : Nat} (h : 16 ≤ d) : isDesign d = false := decide_eq_false (Nat.not_lt.2 h)

/-! ## The library after the RESET line -/

theorem Library.design_reset (d : Nat) : Library.reset.design d = Design.reset := by
  by_cases hd : d < Config.designCount <;> simp [Library.design, Library.reset, hd]

theorem Library.reset_freePages : Library.reset.freePages = List.range 512 := by
  rw [Library.reset, Config.pageCount]

theorem readStitch_reset (a : Nat) : readStitch Library.reset.stitches a = Stitch.zero := rfl

/-- A lock by a low ESTOP at the rise of the line does not reach the library. -/
theorem Part.released_lib (p : Part) : p.released.lib = Library.reset := (Part.lockIfEstop_untouched _).1

theorem lib_of_resetRelease {s t : State} (hlow : s.part.port.inReset = true)
    (hrise : exec .resetRelease s = .next t) : t.part.lib = Library.reset := by
  rw [exec_resetRelease, if_pos hlow] at hrise
  cases hrise
  exact s.part.released_lib

/-- Settles O11: both at reset and after a rise of the line the library is `Library.reset`. -/
theorem libraryClearedAfterReset : Obligations.LibraryClearedAfterReset := by
  intro l hl
  have hreset : l = Library.reset := by
    rcases hl with hstart | ⟨s, t, hlow, hrise, rfl⟩
    · exact hstart
    · exact lib_of_resetRelease hlow hrise
  subst hreset
  refine ⟨List.length_replicate, fun d _ => ?_, Library.reset_freePages, rfl, rfl, readStitch_reset⟩
  rw [Library.design_reset]
  exact ⟨rfl, rfl, rfl, rfl, rfl, rfl, rfl, rfl⟩

/-! ## OPEN_DESIGN (R5) -/

theorem Part.openDesign_outside (p : Part) {d : Nat} (h : 16 ≤ d) : p.openDesign d = (p, .range, []) := by
  simp [Part.openDesign, isDesign_of_le h]

theorem Part.openDesign_used (p : Part) {d : Nat} (h : d < 16) (hs : (p.lib.design d).state ≠ .empty) :
    p.openDesign d = p.replyDesign d .state := by
  simp [Part.openDesign, isDesign_of_lt h, hs]

theorem Part.openDesign_empty (p : Part) {d : Nat} (h : d < 16) (hs : (p.lib.design d).state = .empty) :
    p.openDesign d = p.storeDesign d { Design.reset with state := .loading } .done := by
  simp [Part.openDesign, isDesign_of_lt h, hs]

/-- Settles O12, case by case of the design number and the state. -/
theorem openDesignOpens : Obligations.OpenDesignOpens := by
  intro s d hl
  rw [exec_openDesign, State.request_ready _ _ _ hl]
  refine ⟨fun hd hs => ?_, fun hd hs => ?_, fun hd => ?_⟩
  · rw [Part.openDesign_empty _ hd hs]
    exact ⟨_, rfl⟩
  · rw [Part.openDesign_used _ hd hs]
    exact ⟨_, rfl⟩
  · rw [Part.openDesign_outside _ hd]

/-! ## SEAL (R13) -/

theorem Part.sealRequest_outside (p : Part) {d : Nat} (h : 16 ≤ d) : p.sealRequest d = (p, .range, []) := by
  simp [Part.sealRequest, isDesign_of_le h]

theorem Part.sealRequest_notLoading (p : Part) {d : Nat} (h : d < 16) (hs : (p.lib.design d).state ≠ .loading) :
    p.sealRequest d = p.replyDesign d .state := by
  simp [Part.sealRequest, isDesign_of_lt h, hs]

theorem Part.sealRequest_busy (p : Part) {d e : Nat} (h : d < 16) (hs : (p.lib.design d).state = .loading)
    (he : p.lib.sealer = some e) : p.sealRequest d = p.replyDesign d .busy := by
  simp [Part.sealRequest, isDesign_of_lt h, hs, he]

theorem Part.sealRequest_free (p : Part) {d : Nat} (h : d < 16) (hs : (p.lib.design d).state = .loading)
    (hf : p.lib.sealer = none) :
    p.sealRequest d =
      ({ p with lib := { p.lib with sealer := some d } } : Part).storeDesign d { p.lib.design d with state := .sealing }
        .taken := by
  simp [Part.sealRequest, isDesign_of_lt h, hs, hf]

/-- A design in SEALING has no derived fields. -/
theorem Part.designsAgree.derived_eq_none {p : Part} (ha : p.designsAgree) {d : Nat} (h : d < 16)
    (hs : (p.lib.design d).state = .sealing) : (p.lib.design d).derived = none := by
  obtain ⟨-, -, -, hderived⟩ := ha
  have hnone : ¬ (p.lib.design d).derived.isSome = true := by
    rw [hderived d h, hs]
    rintro (h | h) <;> cases h
  simpa using hnone

theorem exec_lookupDesign_listens {s : State} {d : Nat} (hl : s.listens) (h : d < 16) :
    exec (.lookupDesign d) s = .next (s.answered s.part 0x17 .done (s.part.lib.design d).items) := by
  rw [exec_lookupDesign, State.request_ready _ _ _ hl, if_pos (isDesign_of_lt h)]
  rfl

/-- Settles O17, case by case of the design number, the state and the sealer. -/
theorem sealTaken : Obligations.SealTaken := by
  refine ⟨fun s d hl hd => ?_, fun s d hl hd => ⟨fun hs hf => ?_, fun hs => ?_, fun e hs he => ?_, fun hs ha => ?_⟩⟩
  · rw [exec_seal, State.request_ready _ _ _ hl, Part.sealRequest_outside _ hd]
  · rw [exec_seal, State.request_ready _ _ _ hl, Part.sealRequest_free _ hd hs hf]
    exact ⟨_, rfl⟩
  · rw [exec_seal, State.request_ready _ _ _ hl, Part.sealRequest_notLoading _ hd hs]
    exact ⟨_, rfl⟩
  · rw [exec_seal, State.request_ready _ _ _ hl, Part.sealRequest_busy _ hd hs he]
    exact ⟨_, rfl⟩
  · exact ⟨ha.derived_eq_none hd hs, exec_lookupDesign_listens hl hd⟩

end Sys2Proof.Machine
end
